-- ==== Sys2Proof/Word.lean ====
section
/-! DEFINITION. The widths of spec/00_scope.md R5 and R7 as types: bytes, the two address types, and the
opaque values the block copies and never looks into (R12, U10). A value whose width R5 leaves as an argument is a
number below 2 to the width in Config (R5, R65); a reference the spec gives no width has 16 or 8 bits (log 2). -/

namespace Sys2Proof

/-- A byte (R7). -/
abbrev Byte := BitVec 8

/-- A window address, 0x00 to 0x1F (R40). -/
abbrev Reg := BitVec 5

/-- An address of the ERA space, `ERA_ADDR_WIDTH` = 16 bits (R5, R40). -/
abbrev EraAddr := BitVec 16

/-- A capture time, of `TIME_WIDTH` bits (R5, R152). -/
abbrev Time := Nat

/-- Bus address or select-line identifier, of `BUS_ADDR_WIDTH` bits (R5, R12). -/
abbrev BusAddr := Nat

/-- Bus speed, of `BUS_SPEED_WIDTH` bits (R5, R12). -/
abbrev BusSpeed := Nat

/-- A GPIO pin, of `PIN_WIDTH` bits (R5, R12). -/
abbrev Pin := Nat

/-- A platform reference to a sample storage (R12, R24). DESIGN CHOICE: 16 bits (log 2). -/
abbrev StorageRef := BitVec 16

/-- The name of a member of `TRANSPORTS` (R5, R14). DESIGN CHOICE: 8 bits (log 2). -/
abbrev TransportId := BitVec 8

end Sys2Proof
end

