-- ==== Sys2Proof/Syntax.lean ====
section
/-! DEFINITION. The syntax of the block's operations: one constructor for each of the 21 rows of
spec/opcode_table.json, the binding they are called with (R8), and the three levels at which a row is
encoded (R60): the command port, the command byte of a frame, the data byte written to the ERA control
register. -/

namespace Sys2Proof

/-- A binding: transport, bus address, bus speed (R8). -/
structure Binding where
  tp : TransportId
  busAddress : BusAddr
  busSpeed : BusSpeed
  deriving DecidableEq, Repr, Inhabited

/-- The operations (R66), the bus-level codes (R62, R68) and the pseudo-operations (R73), in the
table's order. The operands are those of R65 and of the rule each row names; a bus-level code carries
the binding of the frame it stands in (log 14). -/
inductive Instr where
  | rapRead (b : Binding) (reg : Reg) (count : BitVec 6)
  | rapWrite (b : Binding) (reg : Reg) (data : Byte)
  | eraRead (b : Binding) (feed1 : Byte) (addr : EraAddr) (n : Byte)
  | eraWrite (b : Binding) (feed1 : Byte) (addr : EraAddr) (data : Byte)
  | register (pin : Pin) (b : Binding) (feed1 : Byte) (storage : StorageRef)
  | unregister (slot : Nat)
  | consumeReady (slot : Nat)
  | clearReady (slot : Nat)
  | cmdReserved (low : BitVec 3)
  | irqBody (i : Nat)
  | decodeAbs (b0 b1 b2 b3 b4 b5 : Byte)
  | decodeRel (b0 b1 b2 b3 : Byte)
  | rapcmdRead (b : Binding) (a : Reg)
  | rapcmdWrite (b : Binding) (a : Reg)
  | eraCtrlReadInc (b : Binding)
  | eraCtrlWrite (b : Binding)
  | eraCtrlDone (b : Binding)
  | feedDisable (b : Binding) (feed1 : Byte)
  | feedEnable (b : Binding) (feed1 : Byte)
  | clearFlags (b : Binding)
  | eraPoll (b : Binding)
  deriving DecidableEq, Repr

/-- The parallel fields of the command port (R65). A field an operation does not use is ignored. A field whose
width is a parameter is held as a number: what exceeds the width does not exist at the port (log 15). -/
structure PortFields where
  op : BitVec 4
  b : Binding := ⟨0, 0, 0⟩
  reg : Reg := 0
  count : BitVec 6 := 0
  data : Byte := 0
  addr : EraAddr := 0
  n : Byte := 0
  feed1 : Byte := 0
  slot : Nat := 0
  pin : Pin := 0
  storage : StorageRef := 0
  deriving DecidableEq, Repr

/-- One encoded row at its level (R60): the fields at the command port; byte 0 of a frame on binding
`b`; the byte that the control register of the sensor of `b` is written with, or reads back. -/
inductive Fetch where
  | port (f : PortFields)
  | busCommand (b : Binding) (cmd : Byte)
  | eraCode (b : Binding) (code : Byte)
  deriving DecidableEq, Repr

/-- Why a fetched word is no instruction. -/
inductive Reject where
  /-- R70: bits 7:5 of a command byte are neither marker. -/
  | noMarker
  /-- R68: a control code that is neither of the two codes nor the completion value. -/
  | unknownControlCode
  deriving DecidableEq, Repr

end Sys2Proof
end

