-- ==== Sys2Proof/Config.lean ====
section
/-! DEFINITION. What an implementation fixes (R5), the constraints R6 puts on it, the defaults, and the
free values. A machine carries its parameters as plain data (field `cfg` of State), so a statement about
every state holds for every choice of them (log 1). -/

namespace Sys2Proof

/-- The kind of a transport (R74). It decides how the opaque pair is read and nothing else. -/
inductive TransportKind where
  | i2cStyle
  | spiStyle
  deriving DecidableEq, Repr, Inhabited

/-- What answers a frame (log 5). `oracle`: the environment answers, "the block imposes no constraint"
(R83). `plainStorage`: registers are plain storage (R88). `refSim`: the reference simulated sensor of
spec/95_test_vectors.md part 2. -/
inductive DeviceModel where
  | oracle
  | plainStorage
  | refSim
  deriving DecidableEq, Repr, Inhabited

/-- A member of `TRANSPORTS` (R5), with the model of the devices behind it. -/
structure Transport where
  id : TransportId
  kind : TransportKind
  device : DeviceModel
  deriving DecidableEq, Repr, Inhabited

/-- The data-ready line of the sensor at `busAddress` behind `tp` drives `pin` (R34). -/
structure Wire where
  tp : TransportId
  busAddress : BusAddr
  pin : Pin
  deriving DecidableEq, Repr, Inhabited

/-- The parameters of R5. `eraPollCap` is `none` for infinity. -/
structure Config where
  nSlots : Nat
  readMarker : Byte
  writeMarker : Byte
  regStatus : Reg
  statusClear : Byte
  statusDrMask : Byte
  statusCcMask : Byte
  regFeed1 : Reg
  regFeed2 : Reg
  feed1EnMask : Byte
  feed1AbsMask : Byte
  regPktBase : Reg
  regEraValue : Reg
  regEraAddrHi : Reg
  regEraAddrLo : Reg
  regEraCtrl : Reg
  eraCtrlReadInc : Byte
  eraCtrlWrite : Byte
  eraPollCap : Option Nat
  rapMaxCount : Nat
  eraMaxN : Nat
  timeWidth : Nat
  busAddrWidth : Nat
  busSpeedWidth : Nat
  pinWidth : Nat
  irqPins : List Pin
  transports : List Transport
  wires : List Wire
  deriving DecidableEq, Repr

/-- `ABS_LEN` (R5). -/
def absLen : Nat := 6

/-- `REL_LEN` (R5). -/
def relLen : Nat := 4

/-- The defaults of R5 (the values it marks GK are PRESUMED, log 3) and, for `IRQ_CAPABLE`, `TRANSPORTS`
and the wiring, which R5 leaves open with no default, the standard environment of
spec/95_test_vectors.md part 2 with devices that answer freely (log 1). -/
def Config.standard : Config where
  nSlots := 4
  readMarker := 0xA0
  writeMarker := 0x80
  regStatus := 0x02
  statusClear := 0x00
  statusDrMask := 0x04
  statusCcMask := 0x08
  regFeed1 := 0x04
  regFeed2 := 0x05
  feed1EnMask := 0x01
  feed1AbsMask := 0x02
  regPktBase := 0x12
  regEraValue := 0x1B
  regEraAddrHi := 0x1C
  regEraAddrLo := 0x1D
  regEraCtrl := 0x1E
  eraCtrlReadInc := 0x05
  eraCtrlWrite := 0x02
  eraPollCap := none
  rapMaxCount := 32
  eraMaxN := 255
  timeWidth := 32
  busAddrWidth := 8
  busSpeedWidth := 32
  pinWidth := 8
  irqPins := [2, 3, 4, 5, 6]
  transports := [⟨0, .i2cStyle, .oracle⟩]
  wires := [⟨0, 0x2A, 2⟩, ⟨0, 0x2B, 3⟩, ⟨0, 0x2C, 4⟩, ⟨0, 0x2D, 5⟩, ⟨0, 0x2E, 6⟩]

/-- The registers other than the packet range that R6 asks to be distinct. -/
def Config.namedRegs (c : Config) : List Reg :=
  [c.regStatus, c.regFeed1, c.regFeed2, c.regEraValue, c.regEraAddrHi, c.regEraAddrLo, c.regEraCtrl]

/-- The single bits of a byte (D4: the two feed masks are single, distinct bits). -/
def oneHotBytes : List Byte := [1, 2, 4, 8, 16, 32, 64, 128]

/-- The constraints of R6 and D4 on the parameters, with `N >= 1` (R5, D1), a positive poll cap (R5) and a read
within the window (R5, R46). -/
def Config.valid (c : Config) : Bool :=
  decide (c.readMarker &&& 0x1F = 0) && decide (c.writeMarker &&& 0x1F = 0) &&
  decide (c.readMarker ≠ c.writeMarker) &&
  decide (c.regPktBase.toNat + absLen ≤ 32) &&
  decide c.namedRegs.Nodup &&
  c.namedRegs.all (fun r => decide (r.toNat < c.regPktBase.toNat) || decide (c.regPktBase.toNat + absLen ≤ r.toNat)) &&
  decide (c.eraCtrlReadInc ≠ 0) && decide (c.eraCtrlWrite ≠ 0) && decide (c.eraCtrlReadInc ≠ c.eraCtrlWrite) &&
  oneHotBytes.contains c.feed1EnMask && oneHotBytes.contains c.feed1AbsMask &&
  decide (c.feed1EnMask ≠ c.feed1AbsMask) &&
  decide (1 ≤ c.nSlots) &&
  decide (c.eraPollCap ≠ some 0) && decide (c.rapMaxCount ≤ 32)

/-- The environment's share of one step: whether the frame of the step fails (U12) and whether the sensor
then took it (U4), the bytes of the frame (R83), the time (R152), the answer of CONSUME_READY on an
unclaimed slot (R111), which vector the platform dispatches (R145), whether inside the foreground's frame (R147,
R168) and how many steps it may be put off (R147), and what an uncovered read of a sample gives (R166). Nothing
constrains any of them (log 4). -/
structure Answer where
  fail : Bool
  took : Bool
  bytes : List Byte
  time : Time
  flag : Bool
  choice : Nat
  inside : Bool
  delay : Nat
  value : Nat
  deriving DecidableEq, Repr, Inhabited

/-- The free values of the step at clock `t` that no written-out answer supplies: no body, so nothing can be
proved about them (log 4). -/
opaque Config.freeAnswer : Nat → Answer

/-- Byte `k` of the frame of the step at clock `t`, where the answer has fewer bytes: no body (log 4). -/
opaque Config.freeByte : Nat → Nat → Byte

end Sys2Proof
end

