-- ==== Sys2Proof/WellFormed.lean ====
section
/-! DEFINITION. When an operation's operands are ones the spec gives it a meaning on: R45, R69, R176, U8, U9
membership in `TRANSPORTS` and the widths of the fields (R5, R65). -/

namespace Sys2Proof

/-- `tp` is a member of `TRANSPORTS` (R5, R65). -/
def Config.hasTransport (c : Config) (tp : TransportId) : Bool :=
  c.transports.any (fun t => decide (t.id = tp))

/-- The binding is one the host can present: a transport that exists, and an address and a speed within their widths
(R5, R65). -/
def Config.reaches (c : Config) (b : Binding) : Bool :=
  c.hasTransport b.tp && decide (b.busAddress < 2 ^ c.busAddrWidth) && decide (b.busSpeed < 2 ^ c.busSpeedWidth)

/-- The operands are within the bounds the spec states for the operation. -/
def Instr.wf (c : Config) : Instr → Bool
  | .rapRead b reg count =>
    c.reaches b && decide (1 ≤ count.toNat) && decide (count.toNat ≤ c.rapMaxCount) &&
      decide (reg.toNat + count.toNat ≤ 32)
  | .rapWrite b _ _ => c.reaches b
  | .eraRead b _ addr n =>
    c.reaches b && decide (n.toNat ≤ c.eraMaxN) && decide (addr.toNat + n.toNat ≤ 0x10000)
  | .eraWrite b _ _ _ => c.reaches b
  | .register pin b _ _ => c.reaches b && decide (pin < 2 ^ c.pinWidth)
  | .unregister i => decide (i < c.nSlots)
  | .consumeReady i => decide (i < c.nSlots)
  | .clearReady i => decide (i < c.nSlots)
  | .cmdReserved _ => true
  | .irqBody i => decide (i < c.nSlots)
  | .decodeAbs _ _ _ _ _ _ => true
  | .decodeRel _ _ _ _ => true
  | .rapcmdRead b _ => c.reaches b
  | .rapcmdWrite b _ => c.reaches b
  | .eraCtrlReadInc b => c.reaches b
  | .eraCtrlWrite b => c.reaches b
  | .eraCtrlDone b => c.reaches b
  | .feedDisable b _ => c.reaches b
  | .feedEnable b _ => c.reaches b
  | .clearFlags b => c.reaches b
  | .eraPoll b => c.reaches b

end Sys2Proof
end

