-- ==== Sys2Proof/Decode.lean ====
section
/-! DEFINITION. Decoding of the three levels of R60 and the encoder. Decoding is total: every fetched word is
an instruction or a named reject. The event IRQ_BODY, the functions DECODE_ABS and DECODE_REL and the
pseudo-operations have no encoding (R66, R73). -/

namespace Sys2Proof

/-- `SLOT_BITS` = ceil(log2 N) (R5). -/
def slotBits (nSlots : Nat) : Nat := if nSlots ≤ 1 then 0 else Nat.log2 (nSlots - 1) + 1

/-- The binding the port's fields carry, each within its width (R65; log 15). -/
def portBinding (c : Config) (b : Binding) : Binding :=
  ⟨b.tp, b.busAddress % 2 ^ c.busAddrWidth, b.busSpeed % 2 ^ c.busSpeedWidth⟩

/-- Bits 7:5 of a command byte (R62): `cmd & 0xE0`. -/
def commandMarker (cmd : Byte) : Byte := cmd &&& 0xE0

/-- Bits 4:0 of a command byte (R62): `cmd & 0x1F`. -/
def commandReg (cmd : Byte) : Reg := cmd.setWidth 5

/-- `MARKER | zext_8(reg)` (R62). -/
def commandByte (marker : Byte) (reg : Reg) : Byte := marker ||| reg.setWidth 8

/-- The operation an `op` value selects, with the fields it uses (R65, R66, R69). -/
def decodePort (c : Config) (f : PortFields) : Instr :=
  let slot := f.slot % 2 ^ slotBits c.nSlots
  let b := portBinding c f.b
  match f.op.toNat with
  | 0 => .rapRead b f.reg f.count
  | 1 => .rapWrite b f.reg f.data
  | 2 => .eraRead b f.feed1 f.addr f.n
  | 3 => .eraWrite b f.feed1 f.addr f.data
  | 4 => .register (f.pin % 2 ^ c.pinWidth) b f.feed1 f.storage
  | 5 => .unregister slot
  | 6 => .consumeReady slot
  | 7 => .clearReady slot
  | _ => .cmdReserved (f.op.setWidth 3)

/-- A command byte by its marker (R62, R70). -/
def decodeBusCommand (c : Config) (b : Binding) (cmd : Byte) : Except Reject Instr :=
  if commandMarker cmd = c.readMarker then .ok (.rapcmdRead b (commandReg cmd))
  else if commandMarker cmd = c.writeMarker then .ok (.rapcmdWrite b (commandReg cmd))
  else .error .noMarker

/-- A control code (R68). -/
def decodeEraCode (c : Config) (b : Binding) (code : Byte) : Except Reject Instr :=
  if code = 0 then .ok (.eraCtrlDone b)
  else if code = c.eraCtrlReadInc then .ok (.eraCtrlReadInc b)
  else if code = c.eraCtrlWrite then .ok (.eraCtrlWrite b)
  else .error .unknownControlCode

/-- The decoder, by level (R60). -/
def decode (c : Config) : Fetch → Except Reject Instr
  | .port f => .ok (decodePort c f)
  | .busCommand b cmd => decodeBusCommand c b cmd
  | .eraCode b code => decodeEraCode c b code

/-- The encoder, from the same tables (R62, R65, R66, R68); `none` for what has no encoding. -/
def encode (c : Config) : Instr → Option Fetch
  | .rapRead b reg count => some (.port { op := 0, b := b, reg := reg, count := count })
  | .rapWrite b reg data => some (.port { op := 1, b := b, reg := reg, data := data })
  | .eraRead b feed1 addr n => some (.port { op := 2, b := b, feed1 := feed1, addr := addr, n := n })
  | .eraWrite b feed1 addr data => some (.port { op := 3, b := b, feed1 := feed1, addr := addr, data := data })
  | .register pin b feed1 storage => some (.port { op := 4, pin := pin, b := b, feed1 := feed1, storage := storage })
  | .unregister i => some (.port { op := 5, slot := i })
  | .consumeReady i => some (.port { op := 6, slot := i })
  | .clearReady i => some (.port { op := 7, slot := i })
  | .cmdReserved low => some (.port { op := 8 ||| low.setWidth 4 })
  | .irqBody _ => none
  | .decodeAbs _ _ _ _ _ _ => none
  | .decodeRel _ _ _ _ => none
  | .rapcmdRead b a => some (.busCommand b (commandByte c.readMarker a))
  | .rapcmdWrite b a => some (.busCommand b (commandByte c.writeMarker a))
  | .eraCtrlReadInc b => some (.eraCode b c.eraCtrlReadInc)
  | .eraCtrlWrite b => some (.eraCode b c.eraCtrlWrite)
  | .eraCtrlDone b => some (.eraCode b 0)
  | .feedDisable _ _ => none
  | .feedEnable _ _ => none
  | .clearFlags _ => none
  | .eraPoll _ => none

/-- The binding of all zeros. -/
def zeroBinding : Binding := ⟨0, 0, 0⟩

/-- A word of spec/opcode_table.json as a fetched word, every operand field above `nbits` zero (log 15). The
table numbers three different encodings from bit 0: a word of the command port has nothing above its four
`op` bits, a command byte has its marker there. A control code on its own has the shape of a port word and is
read as one. -/
def fetchOfTableWord (nbits w : Nat) : Fetch :=
  if nbits ≤ 4 then .port { op := BitVec.ofNat 4 w }
  else if w % 256 < 16 then .port { op := BitVec.ofNat 4 w }
  else .busCommand zeroBinding (BitVec.ofNat 8 w)

/-- What the decoder reads from a word of the table, at the parameters' default values. -/
def decodeTableWord (nbits w : Nat) : Option Instr :=
  match decode Config.standard (fetchOfTableWord nbits w) with
  | .ok i => some i
  | .error _ => none

end Sys2Proof
end

