-- ==== Sys2Proof/Machine/State.lean ====
section
/-! DEFINITION. The state: everything spec/10_state.md R10 lists, the platform's and the sensors' part with
it, as plain data; the reasons a step can stop; the state after reset (R35). -/

namespace Sys2Proof.Machine

/-- The tag of a Timestamped Sample (R24). -/
inductive Mode where
  | absolute
  | relative
  deriving DecidableEq, Repr

/-- The raw buffer, `RAW_LEN` = 6 bytes (R15). -/
structure Raw where
  b0 : Byte
  b1 : Byte
  b2 : Byte
  b3 : Byte
  b4 : Byte
  b5 : Byte
  deriving DecidableEq, Repr

/-- An Absolute Sample (R24). -/
structure AbsSample where
  x : BitVec 16
  y : BitVec 16
  z : Byte
  buttons : Byte
  touching : Bool
  deriving DecidableEq, Repr

/-- A Relative Sample (R24); the deltas are the integers an `i8` stands for. -/
structure RelSample where
  buttons : Byte
  dx : Int
  dy : Int
  scroll : Int
  deriving DecidableEq, Repr

/-- A Timestamped Sample storage (R24). A member is `none` while it holds no value (R25). `covered` is the
model's own: a host read made now is one that R55 (2) promises the complete sample to (log 13). So is `tagged`: the owning
instance has written the tag (R163 (3); log 35). -/
structure Sample where
  mode : Mode
  timestamp : Time
  abs : Option AbsSample
  rel : Option RelSample
  covered : Bool
  tagged : Bool
  deriving DecidableEq, Repr

/-- A storage nothing has written. R35 gives no value: DESIGN CHOICE (log 7). -/
def Sample.reset : Sample := ⟨.absolute, 0, none, none, false, false⟩

/-- One slot of the table (R12). -/
structure Slot where
  claimed : Bool
  busAddress : BusAddr
  busSpeed : BusSpeed
  raw : Raw
  sampleRef : StorageRef
  ready : Bool
  rapRead : TransportId
  rapWrite : TransportId
  attached : Bool
  pin : Pin
  deriving DecidableEq, Repr

/-- A slot after reset: `claimed`, `attached`, `ready` are R35's, the rest DESIGN CHOICE (log 6). -/
def Slot.reset : Slot := ⟨false, 0, 0, ⟨0, 0, 0, 0, 0, 0⟩, 0, false, 0, 0, false, 0⟩

/-- The phase of a vector sequencer (R20, R131). -/
inductive VecPhase where
  | idle
  | read
  | stamp
  | clear
  | decode
  | setReady
  deriving DecidableEq, Repr

/-- A vector sequencer: phase, the working copy read at step 0, the fault latch (R20, R36). `rbind` is the
binding of the stored `rap_read`, `wbind` that of the stored `rap_write` (R14, R122). -/
structure Vec where
  ph : VecPhase
  fault : Bool
  rbind : Binding
  wbind : Binding
  sref : StorageRef
  mode : Mode
  deriving DecidableEq, Repr

/-- A vector after reset (R35); the working copy is DESIGN CHOICE (log 6). -/
def Vec.reset : Vec := ⟨.idle, false, ⟨0, 0, 0⟩, ⟨0, 0, 0⟩, 0, .absolute⟩

/-- The phase of the foreground sequencer (R19, R100). `line k` is the numbered line `k` of REGISTER (R105)
and of UNREGISTER (R110). A phase names the next step to perform. -/
inductive Phase where
  | idle
  | feedOff
  | valueW
  | addrHi
  | addrLo
  | ctrl
  | poll
  | value
  | clear
  | line (k : Nat)
  deriving DecidableEq, Repr

/-- The foreground sequencer (R19): the operation in progress with its operands, its phase, and the working
values: index and bytes of ERA_READ, polls of the handshake, the slot REGISTER has chosen. -/
structure Fg where
  op : Option Instr
  ph : Phase
  k : Nat
  bytes : List Byte
  polls : Nat
  slot : Nat
  deriving DecidableEq, Repr

/-- `fg.op` = NONE, `fg.ph` = IDLE (R19, R35). -/
def Fg.idle : Fg := ⟨none, .idle, 0, [], 0, 0⟩

/-- The status of a result (R67). -/
inductive Status where
  | ok
  | busTransactionFailed
  | outOfSlots
  | notAnInterruptPin
  | unresponsiveDevice
  deriving DecidableEq, Repr

/-- The result fields of the command port (R65). A field the answer does not carry is `none`. -/
structure Result where
  st : Status
  rbytes : Option (List Byte) := none
  rslot : Option Nat := none
  rbool : Option Bool := none
  deriving DecidableEq, Repr

/-- What a direct call of a decode function returned (R126; log 12). -/
inductive FnResult where
  | none
  | abs (a : AbsSample)
  | rel (r : RelSample)
  deriving DecidableEq, Repr

/-- What a sensor takes the bytes after a command byte for (R61, R62). -/
inductive FrameDir where
  | idle
  | reading
  | writing
  deriving DecidableEq, Repr

/-- The state of a sensor that no frame reads directly (R33) and its data-ready line (R34). `pend` is the
control code of the extended access in progress, zero for none. -/
structure Sensor where
  ptr : Reg
  dir : FrameDir
  target : EraAddr
  pend : Byte
  feed : Bool
  line : Bool
  deriving DecidableEq, Repr

/-- A sensor after reset. R35 gives no value: DESIGN CHOICE (log 8). -/
def Sensor.reset : Sensor := ⟨0, .idle, 0, 0, false, false⟩

/-- One frame as the model records it (R61, R83, R84; log 26). -/
inductive FrameEvent where
  | read (b : Binding) (reg : Reg) (n : Nat) (bytes : List Byte)
  | readFailed (b : Binding) (reg : Reg) (n : Nat)
  | write (b : Binding) (reg : Reg) (v : Byte)
  | writeFailed (b : Binding) (reg : Reg) (v : Byte)
  deriving DecidableEq, Repr

/-- A field of a sample storage as the host reads it (R24, R72 `load`). -/
inductive SampleField where
  | mode
  | timestamp
  | absX
  | absY
  | absZ
  | absButtons
  | absTouching
  | relButtons
  | relDx
  | relDy
  | relScroll
  deriving DecidableEq, Repr

/-- What a claimed slot holds a reference to and the host must keep valid (R178). -/
inductive Resource where
  | transport (tp : TransportId)
  | storage (r : StorageRef)
  | pin (p : Pin)
  deriving DecidableEq, Repr

/-- What the outside world does (R72, R93, R156, R178; log 9). -/
inductive Move where
  /-- The host presents an operation at the port. -/
  | present (w : Fetch)
  /-- The host sets or clears `IE` (`int`, `noint`). -/
  | setIE (v : Bool)
  /-- The owning instance writes the mode tag of its storage. -/
  | writeMode (r : StorageRef) (m : Mode)
  /-- The host reads a field of a storage. -/
  | load (r : StorageRef) (f : SampleField)
  /-- The host takes a transport, a storage or a pin away (log 36). -/
  | discard (x : Resource)
  /-- The host waits for the operation in progress to return. -/
  | await
  /-- The agent in turn takes its step; the platform does not dispatch. -/
  | run
  /-- The platform dispatches vector `i`, between two steps. -/
  | dispatch (i : Nat)
  /-- The platform dispatches vector `i` inside the frame of the foreground's next step (R168). -/
  | dispatchInFrame (i : Nat)
  /-- A rising edge on a pin, whatever the level of a sensor's line wired to it (log 33). -/
  | pulse (p : Pin)
  /-- An agent outside the block writes the feed byte of the sensor of `b` (R93; log 38). -/
  | otherFeed (b : Binding) (v : Byte)
  /-- The sensor of binding `b` produces a sample. -/
  | sample (b : Binding) (bytes : List Byte)
  /-- Power goes and comes back (R158, R160). -/
  | powerCycle
  deriving DecidableEq, Repr

/-- The bytes of every sensor's window and ERA space (R40), by address, strictly rising. An unlisted address
holds no value; what a frame then reads is said by the device model (log 8). -/
abbrev Memory := List Host.Cell

/-- The whole state (R10), with the model's own fields after it (INVENTORY.md). -/
structure State where
  /-- The parameters of R5: no step changes them. -/
  cfg : Config
  /-- The slot table (R11, R12). -/
  slots : List Slot
  /-- The vector sequencers (R20, R36). -/
  vecs : List Vec
  /-- The pending latches (R23, R143). -/
  pending : List Bool
  /-- The global interrupt enable (R23). -/
  ie : Bool
  /-- The foreground sequencer (R19). -/
  fg : Fg
  /-- What the host presents and the block has not taken yet (R65). -/
  port : Option Fetch
  /-- The answer to the last operation taken, once it has returned (R65). -/
  result : Option Result
  /-- The returned value of the last direct call of a decode function (log 12). -/
  fnResult : FnResult
  /-- The sample storages by reference; an unlisted one is `Sample.reset` (R24). -/
  samples : List (Nat × Sample)
  /-- Windows and ERA spaces (R26, R32). -/
  mem : Memory
  /-- The sensors by key; an unlisted one is `Sensor.reset` (R33, R34). -/
  sensors : List (Nat × Sensor)
  /-- The frame events, newest first (R83, R84). -/
  trace : List FrameEvent
  /-- What the host has read from sample storages, newest first (R178). -/
  loaded : List Int
  /-- The outside world's coming moves, oldest first (log 9). -/
  moves : List Move
  /-- The free values of the coming steps that are written out, oldest first (log 4). -/
  answers : List Answer
  /-- Steps taken: the argument of the opaque free values (log 4). -/
  clock : Nat
  /-- How many more steps the platform may put off a dispatch it could make, once it has put one off (R147; log
  37). -/
  patience : Option Nat
  deriving DecidableEq, Repr

/-- Why the machine stops with a fault. -/
inductive Fault where
  /-- A frame of ERA_READ, ERA_WRITE or ERA_POLL, other than the FEED_DISABLE, while the sensor's feed is on
  (R165, U1). Raised by `State.eraGuard`. Safe: the spec calls the outcome undefined. -/
  | eraWhileFeedOn
  /-- The host reads the member of a sample that the tag does not select (R25). Raised by `State.load`.
  Safe: such a member holds no value. -/
  | unselectedMember
  /-- A vector is dispatched inside a foreground frame on the bus of its own binding (R168, R87). Raised by
  `State.dispatchInside`. Safe: the spec calls the result undefined. -/
  | sharedBusFrame
  deriving DecidableEq, Repr

/-- Why a step is given no meaning. -/
inductive Refusal where
  /-- An instruction of the table that has no meaning yet, by its mnemonic. Raised by no arm of this model. -/
  | notModelled (mnemonic : String)
  /-- `op` 0x8 to 0xF (R69). Raised by CMD_RESERVED. Safe. -/
  | reservedOp
  /-- A fetched word that is no instruction (R68, R70). Raised when the port's word is taken. Safe. -/
  | undecodable (r : Reject)
  /-- `count` 0, above `RAP_MAX_COUNT`, or `reg + count > 32` (R45, R69, U9). Raised by RAP_READ. Safe. -/
  | readOutsideWindow
  /-- `n` above `ERA_MAX_N` or `addr + n > 0x10000` (R176, U9). Raised by ERA_READ. Safe. -/
  | eraRunPastTop
  /-- A `slot` operand not below `N` (R69). Raised by UNREGISTER, CONSUME_READY, CLEAR_READY. Safe. -/
  | slotOutOfRange
  /-- A vector index not below `N` (R120). Raised by IRQ_BODY. Safe. -/
  | vectorOutOfRange
  /-- `tp` is no member of `TRANSPORTS` (R65). Raised by every operation with a binding. Safe. -/
  | unknownTransport
  /-- A bus address, a bus speed or a pin that its field cannot hold (R65). Raised by every operation with a binding;
  `step` never brings it about. Safe. -/
  | operandTooWide
  /-- REGISTER with a storage whose tag the owning instance has not written (R163, R178). Raised by REGISTER at its
  claim. Safe. -/
  | tagNotWritten
  /-- A feed byte whose data mode is not the tag of an attached slot on that sensor, or at REGISTER not the tag of its
  storage (R163, R173, R178). Raised by every operation that writes the feed byte and by the move `otherFeed`. Safe. -/
  | dataModeConflict
  /-- A feed byte at REGISTER that is not the one the sensor was last given, but for the feed enable (R163 (2), (4),
  R178). Raised by REGISTER at its claim. Safe. -/
  | feedByteMismatch
  /-- The host takes away what a claimed slot uses (R178). Raised by the move `discard`. Safe. -/
  | resourceInUse
  /-- REGISTER on a pin that an attached slot has (R174). Raised by REGISTER at its claim. Safe. -/
  | duplicatePin
  /-- REGISTER with a storage that a claimed slot has (R174). Raised by REGISTER at its claim. Safe. -/
  | duplicateStorage
  /-- A write of a tag while a slot that refers to the storage is attached (R173). Raised by the move
  `writeMode`. Safe. -/
  | modeWhileAttached
  /-- A foreground operation while another one is in progress (R178: no move in the model). Raised by every
  foreground operation; `step` never brings it about. Safe. -/
  | operationInProgress
  /-- The operation in progress stands in a phase it does not have (R100, R105, R110). Raised by the
  operations of several steps; no run from reset brings it about. Safe. -/
  | foreignPhase
  /-- IRQ_BODY is started where R147 does not allow a dispatch. Raised by IRQ_BODY; `step` never brings it
  about. Safe. -/
  | dispatchNotAllowed
  deriving DecidableEq, Repr

/-- The state right after reset with parameters `c` (R35, R161). -/
def State.resetWith (c : Config) : State where
  cfg := c
  slots := List.replicate c.nSlots Slot.reset
  vecs := List.replicate c.nSlots Vec.reset
  pending := List.replicate c.nSlots false
  ie := false
  fg := Fg.idle
  port := none
  result := none
  fnResult := .none
  samples := []
  mem := []
  sensors := []
  trace := []
  loaded := []
  moves := []
  answers := []
  clock := 0
  patience := none

/-- The state right after reset, at the parameters' default values (R35; log 1). -/
def State.reset : State := State.resetWith Config.standard

end Sys2Proof.Machine
end

