-- ==== Sys2Proof/Machine/Memory.lean ====
section
/-! DEFINITION. Sparse storage by address: the operations over `Memory` (a byte or no value at an address) and
over the keyed storages that read as a default where nothing is listed. -/

namespace Sys2Proof.Machine

/-- The entry at address `a`. -/
def Sparse.get? {α : Type} : List (Nat × α) → Nat → Option α
  | [], _ => none
  | (k, v) :: m, a => if a = k then some v else Sparse.get? m a

/-- Write `v` at address `a`, keeping addresses rising. -/
def Sparse.put {α : Type} : List (Nat × α) → Nat → α → List (Nat × α)
  | [], a, v => [(a, v)]
  | (k, w) :: m, a, v =>
    if a < k then (a, v) :: (k, w) :: m
    else if a = k then (a, v) :: m
    else (k, w) :: Sparse.put m a v

/-- Take the entry at address `a` away. -/
def Sparse.erase {α : Type} : List (Nat × α) → Nat → List (Nat × α)
  | [], _ => []
  | (k, w) :: m, a => if a = k then Sparse.erase m a else (k, w) :: Sparse.erase m a

/-- Read with default `d`. -/
def Sparse.getD {α : Type} (m : List (Nat × α)) (a : Nat) (d : α) : α := (Sparse.get? m a).getD d

/-- Write where an unlisted address reads as `d`: writing `d` removes the entry. -/
def Sparse.putD {α : Type} [DecidableEq α] (m : List (Nat × α)) (a : Nat) (d v : α) : List (Nat × α) :=
  if v = d then Sparse.erase m a else Sparse.put m a v

/-- Every address of `m` is above `a`. -/
def Sparse.above {α : Type} (a : Nat) (m : List (Nat × α)) : Bool := m.all (fun e => decide (a < e.1))

/-- Addresses strictly rise. -/
def Sparse.rising {α : Type} : List (Nat × α) → Bool
  | [] => true
  | (k, _) :: m => Sparse.above k m && Sparse.rising m

/-- The canonical form of a storage with default `d`: addresses strictly rise and no entry is `d`. -/
def Sparse.wfD {α : Type} [DecidableEq α] (d : α) (m : List (Nat × α)) : Bool :=
  Sparse.rising m && m.all (fun e => decide (e.2 ≠ d))

/-- The canonical form of memory: addresses strictly rise (an unlisted address holds no value, so no entry can
equal it). -/
def Memory.wf (m : Memory) : Bool := Sparse.rising m

/-- Write a value at an address, or take the value away. -/
def Memory.set (m : Memory) (a : Nat) (v : Option Byte) : Memory :=
  match v with
  | some v => Sparse.put m a v
  | none => Sparse.erase m a

end Sys2Proof.Machine
end

