-- ==== Sys2Proof/Machine/Operands.lean ====
section
/-! DEFINITION. Operand forms: command bytes (R62), the two bytes of an extended address (R43, R63), the feed
bytes (R64, R90, R91), which sensor and which byte a binding and an address reach (R40), pins and transports
(R5), the raw packet (R15, R130), and the operand bounds with their refusals (R45, R69, R176). -/

namespace Sys2Proof.Machine

/-- The command byte of a read frame (R62). -/
def readCommand (c : Config) (reg : Reg) : Byte := commandByte c.readMarker reg

/-- The command byte of a write frame (R62). -/
def writeCommand (c : Config) (reg : Reg) : Byte := commandByte c.writeMarker reg

/-- `addr[15:8]` (R63). -/
def addrHigh (a : EraAddr) : Byte := a.extractLsb' 8 8

/-- `addr[7:0]` (R63). -/
def addrLow (a : EraAddr) : Byte := a.extractLsb' 0 8

/-- The address the two address registers give: high byte, low byte (R43). -/
def addrOf (hi lo : Byte) : EraAddr := hi ++ lo

/-- `feed1 & ~FEED1_EN_MASK` (R64, R90). -/
def feedOffByte (c : Config) (feed1 : Byte) : Byte := feed1 &&& ~~~c.feed1EnMask

/-- `feed1 | FEED1_EN_MASK` (R64, R91). -/
def feedOnByte (c : Config) (feed1 : Byte) : Byte := feed1 ||| c.feed1EnMask

/-- The data mode a feed byte sets (R29). -/
def feedMode (c : Config) (feed1 : Byte) : Mode := if feed1 &&& c.feed1AbsMask ≠ 0 then .absolute else .relative

/-- A feed byte with the enable bit set turns the feed on (R29, R48 (d)). -/
def feedEnabled (c : Config) (feed1 : Byte) : Bool := decide (feed1 &&& c.feed1EnMask ≠ 0)

/-- Which sensor a binding reaches: its transport and bus address (R40; DEDUCED from D25, log 5). -/
def sensorKey (b : Binding) : Nat := b.busAddress * 256 + b.tp.toNat

/-- Where the ERA space byte `a` of the sensor of `b` stands in `mem` (R32, R40). -/
def eraAddr (b : Binding) (a : EraAddr) : Nat := sensorKey b * 0x20000 + a.toNat

/-- Where the window register `r` of the sensor of `b` stands in `mem` (R26, R40, R41: apart from the ERA
space). -/
def windowAddr (b : Binding) (r : Reg) : Nat := sensorKey b * 0x20000 + 0x10000 + r.toNat

/-- The device model behind a transport. One that is no member answers freely. -/
def deviceModel (c : Config) (b : Binding) : DeviceModel :=
  match c.transports.find? (fun t => decide (t.id = b.tp)) with
  | some t => t.device
  | none => .oracle

/-- Two bindings are on the same bus (R87). -/
def sameBus (b b' : Binding) : Bool := decide (b.tp = b'.tp)

/-- How a transport of each kind reads the opaque pair (R74, D27). -/
inductive BusTarget where
  | slaveAddress (a : BusAddr)
  | selectLine (l : BusAddr) (clock : BusSpeed)
  deriving DecidableEq, Repr

/-- What the opaque pair of `b` means to a transport of kind `k` (R74). -/
def busTarget (k : TransportKind) (b : Binding) : BusTarget :=
  match k with
  | .i2cStyle => .slaveAddress b.busAddress
  | .spiStyle => .selectLine b.busAddress b.busSpeed

/-- The pin the data-ready line of the sensor of `b` drives (R34). -/
def wiredPin (c : Config) (b : Binding) : Option Pin :=
  (c.wires.find? (fun w => decide (w.tp = b.tp) && decide (w.busAddress = b.busAddress))).map (·.pin)

/-- `IRQ_CAPABLE(pin)` (R5, U24). -/
def irqCapable (c : Config) (p : Pin) : Bool := c.irqPins.contains p

/-- The number of packet bytes in each mode (R5, R130). -/
def packetLen (m : Mode) : Nat :=
  match m with
  | .absolute => absLen
  | .relative => relLen

/-- `raw[0 .. L-1]` become `bytes`, `raw[L .. 5]` stay (R15, R122). -/
def fillRaw (old : Raw) (bytes : List Byte) (len : Nat) : Raw where
  b0 := if 0 < len then bytes.getD 0 0 else old.b0
  b1 := if 1 < len then bytes.getD 1 0 else old.b1
  b2 := if 2 < len then bytes.getD 2 0 else old.b2
  b3 := if 3 < len then bytes.getD 3 0 else old.b3
  b4 := if 4 < len then bytes.getD 4 0 else old.b4
  b5 := if 5 < len then bytes.getD 5 0 else old.b5

/-- The code of a status (R67). -/
def statusCode (st : Status) : BitVec 3 :=
  match st with
  | .ok => 0
  | .busTransactionFailed => 1
  | .outOfSlots => 2
  | .notAnInterruptPin => 3
  | .unresponsiveDevice => 4

/-- The bytes the block puts on the bus in a frame (R61). -/
def frameBytes (c : Config) (e : FrameEvent) : List Byte :=
  match e with
  | .read _ reg _ _ => [readCommand c reg]
  | .readFailed _ reg _ => [readCommand c reg]
  | .write _ reg v => [writeCommand c reg, v]
  | .writeFailed _ reg v => [writeCommand c reg, v]

/-- The refusal of a binding whose transport is no member, or that no field can hold (R65; log 18). -/
def bindingRefusal (c : Config) (b : Binding) : Option Refusal :=
  if c.reaches b then none else if c.hasTransport b.tp then some .operandTooWide else some .unknownTransport

/-- The refusal of a slot operand (R69). -/
def slotRefusal (c : Config) (i : Nat) : Option Refusal :=
  if i < c.nSlots then none else some .slotOutOfRange

/-- Which refusal, if any, an operation's operands meet (R45, R65, R69, R176). -/
def operandRefusal (c : Config) (i : Instr) : Option Refusal :=
  match i with
  | .rapRead b reg count =>
    if 1 ≤ count.toNat ∧ count.toNat ≤ c.rapMaxCount ∧ reg.toNat + count.toNat ≤ 32 then bindingRefusal c b
    else some .readOutsideWindow
  | .rapWrite b _ _ => bindingRefusal c b
  | .eraRead b _ addr n =>
    if n.toNat ≤ c.eraMaxN ∧ addr.toNat + n.toNat ≤ 0x10000 then bindingRefusal c b else some .eraRunPastTop
  | .eraWrite b _ _ _ => bindingRefusal c b
  | .register pin b _ _ => if pin < 2 ^ c.pinWidth then bindingRefusal c b else some .operandTooWide
  | .unregister i => slotRefusal c i
  | .consumeReady i => slotRefusal c i
  | .clearReady i => slotRefusal c i
  | .cmdReserved _ => some .reservedOp
  | .irqBody i => if i < c.nSlots then none else some .vectorOutOfRange
  | .decodeAbs _ _ _ _ _ _ => none
  | .decodeRel _ _ _ _ => none
  | .rapcmdRead b _ => bindingRefusal c b
  | .rapcmdWrite b _ => bindingRefusal c b
  | .eraCtrlReadInc b => bindingRefusal c b
  | .eraCtrlWrite b => bindingRefusal c b
  | .eraCtrlDone b => bindingRefusal c b
  | .feedDisable b _ => bindingRefusal c b
  | .feedEnable b _ => bindingRefusal c b
  | .clearFlags b => bindingRefusal c b
  | .eraPoll b => bindingRefusal c b

end Sys2Proof.Machine
end

