-- ==== Sys2Proof/Machine/Access.lean ====
section
/-! DEFINITION. The one home of every piece of state: reads and writes of slots, vectors, pending latches,
sensors, sample storages, window registers and ERA bytes, the sequencer, the ports and the record of frames. -/

namespace Sys2Proof.Machine

/-- `slot[i]` (R8, R11). -/
def State.slot (s : State) (i : Nat) : Slot := s.slots.getD i Slot.reset

/-- The binding a slot holds (R12, R122). -/
def Slot.binding (x : Slot) : Binding := ⟨x.rapRead, x.busAddress, x.busSpeed⟩

/-- `slot[i] <- x`. -/
def State.setSlot (s : State) (i : Nat) (x : Slot) : State := { s with slots := s.slots.set i x }

/-- `vec[i]` (R20). -/
def State.vec (s : State) (i : Nat) : Vec := s.vecs.getD i Vec.reset

/-- `vec[i] <- x`. -/
def State.setVec (s : State) (i : Nat) (x : Vec) : State := { s with vecs := s.vecs.set i x }

/-- `pending[i]` (R23). -/
def State.isPending (s : State) (i : Nat) : Bool := s.pending.getD i false

/-- `pending[i] <- v`. -/
def State.setPending (s : State) (i : Nat) (v : Bool) : State := { s with pending := s.pending.set i v }

/-- The sensor a binding reaches (R40). -/
def State.sensor (s : State) (b : Binding) : Sensor := Sparse.getD s.sensors (sensorKey b) Sensor.reset

/-- Replace the sensor a binding reaches. -/
def State.setSensor (s : State) (b : Binding) (x : Sensor) : State :=
  { s with sensors := Sparse.putD s.sensors (sensorKey b) Sensor.reset x }

/-- The storage a reference designates (R24). -/
def State.sample (s : State) (r : StorageRef) : Sample := Sparse.getD s.samples r.toNat Sample.reset

/-- Replace the storage a reference designates. -/
def State.setSample (s : State) (r : StorageRef) (x : Sample) : State :=
  { s with samples := Sparse.putD s.samples r.toNat Sample.reset x }

/-- The byte `mem` holds at an address, if any: the model's read of one byte. -/
def State.byteAt (s : State) (a : Nat) : Option Byte := Sparse.get? s.mem a

/-- Write or take away the byte at an address. -/
def State.setByte (s : State) (a : Nat) (v : Option Byte) : State := { s with mem := Memory.set s.mem a v }

/-- What is known of window register `r` of the sensor of `b` (R26). -/
def State.window (s : State) (b : Binding) (r : Reg) : Option Byte := s.byteAt (windowAddr b r)

/-- Set what is known of a window register. -/
def State.setWindow (s : State) (b : Binding) (r : Reg) (v : Option Byte) : State := s.setByte (windowAddr b r) v

/-- What is known of ERA byte `a` of the sensor of `b` (R32). -/
def State.eraByte (s : State) (b : Binding) (a : EraAddr) : Option Byte := s.byteAt (eraAddr b a)

/-- Set what is known of an ERA byte. -/
def State.setEraByte (s : State) (b : Binding) (a : EraAddr) (v : Option Byte) : State := s.setByte (eraAddr b a) v

/-- The free values of this step (log 4). -/
def State.answer (s : State) : Answer :=
  match s.answers with
  | a :: _ => a
  | [] => Config.freeAnswer s.clock

/-- Free byte `k` of this step's frame (R83; log 4). -/
def State.freeByte (s : State) (k : Nat) : Byte := (s.answer.bytes[k]?).getD (Config.freeByte s.clock k)

/-- The first `n` free bytes of this step's frame. -/
def State.freeBytes (s : State) (n : Nat) : List Byte := (List.range n).map s.freeByte

/-- `Time()`: a free value of `TIME_WIDTH` bits (R8, R152). -/
def State.now (s : State) : Time := s.answer.time % 2 ^ s.cfg.timeWidth

/-- Record a frame (R83, R84). -/
def State.record (s : State) (e : FrameEvent) : State := { s with trace := e :: s.trace }

/-- `IE <- v` (R23). -/
def State.setIe (s : State) (v : Bool) : State := { s with ie := v }

/-- `mask_irq`: `f` runs with `IE` cleared, then the saved `IE` is restored (R8, R23). -/
def State.maskIrq (s : State) (f : State → State) : State := (f (s.setIe false)).setIe s.ie

/-- Replace the foreground sequencer (R19). -/
def State.setFg (s : State) (x : Fg) : State := { s with fg := x }

/-- The phase the operation `i` stands in: IDLE when none is in progress, none when another one is (R19). -/
def State.phaseOf (s : State) (i : Instr) : Option Phase :=
  match s.fg.op with
  | none => some .idle
  | some j => if j = i then some s.fg.ph else none

/-- `fg.op <- i`, `fg.ph <- p` (R8, R19). -/
def State.goto (s : State) (i : Instr) (p : Phase) : State := s.setFg { s.fg with op := some i, ph := p }

/-- The operation returns with result `r`: the sequencer is IDLE (R21, R65). -/
def State.ret (s : State) (r : Result) : State := { s with fg := Fg.idle, result := some r }

/-- The operation returns an error (R8 `raise`, R67, R135). -/
def State.raiseError (s : State) (st : Status) : State := s.ret { st := st }

/-- The host's operation leaves the port and has no answer yet (R65; log 23). -/
def State.takePort (s : State) : State := { s with port := none, result := none }

end Sys2Proof.Machine
end

