-- ==== Sys2Proof/Machine/Flags.lean ====
section
/-! DEFINITION. The one-bit state (R22): the slot's flags, the pending latches, the fault latch, the sensor's
status flags and data-ready line, and the tests made on them. -/

namespace Sys2Proof.Machine

/-- `slot[i].claimed <- v` (R13). -/
def State.setClaimed (s : State) (i : Nat) (v : Bool) : State := s.setSlot i { s.slot i with claimed := v }

/-- `slot[i].ready <- v` (R16). -/
def State.setReady (s : State) (i : Nat) (v : Bool) : State := s.setSlot i { s.slot i with ready := v }

/-- `slot[i].attached <- v` (R17). -/
def State.setAttached (s : State) (i : Nat) (v : Bool) : State := s.setSlot i { s.slot i with attached := v }

/-- `vec[i].fault <- 1`, sticky (R36). -/
def State.latchFault (s : State) (i : Nat) : State := s.setVec i { s.vec i with fault := true }

/-- The unclaimed slot of least index (R107). -/
def State.freeSlot (s : State) : Option Nat := s.slots.findIdx? (fun x => !x.claimed)

/-- Some attached slot has pin `p` (R174). -/
def State.pinTaken (s : State) (p : Pin) : Bool := s.slots.any (fun x => x.attached && decide (x.pin = p))

/-- Some claimed slot refers to storage `r` (R174). -/
def State.storageTaken (s : State) (r : StorageRef) : Bool :=
  s.slots.any (fun x => x.claimed && decide (x.sampleRef = r))

/-- Some attached slot refers to storage `r` (R173). -/
def State.storageAttached (s : State) (r : StorageRef) : Bool :=
  s.slots.any (fun x => x.attached && decide (x.sampleRef = r))

/-- The vector whose body runs, if any (R20, R149). -/
def State.running (s : State) : Option Nat := s.vecs.findIdx? (fun v => decide (v.ph ≠ .idle))

/-- Vector `i` may be dispatched: pending, `IE` set, no body running (R147). -/
def State.canDispatch (s : State) (i : Nat) : Bool := s.isPending i && s.ie && s.running.isNone

/-- The vectors that may be dispatched (R147). -/
def State.candidates (s : State) : List Nat := (List.range s.cfg.nSlots).filter s.canDispatch

/-- The step is over: its free values are used up (log 4), and a dispatch put off is waited for no longer where none
could be made (R147 "while the conditions keep holding"; log 37). -/
def State.tick (s : State) : State :=
  { s with
    answers := s.answers.tail
    clock := s.clock + 1
    patience := if s.candidates = [] then none else s.patience }

/-- Some attached slot on the sensor of `b` refers to a storage whose tag is not the data mode of feed byte `v`
(R173, R178; log 35). -/
def State.modeConflict (s : State) (b : Binding) (v : Byte) : Bool :=
  s.slots.any fun x => x.attached && decide (sensorKey x.binding = sensorKey b) &&
    decide (feedMode s.cfg v ≠ (s.sample x.sampleRef).mode)

/-- The refusal of a feed byte that would change the data mode under an attached slot (R178). -/
def State.feedRefusal (s : State) (b : Binding) (v : Byte) : Option Refusal :=
  if s.modeConflict b v then some .dataModeConflict else none

/-- The refusal of an operation whose own frame writes such a feed byte (R178; log 35). REGISTER asks it of its
binding at its claim. -/
def State.modeRefusal (s : State) (i : Instr) : Option Refusal :=
  match i with
  | .rapRead _ _ _ => none
  | .rapWrite b reg v => if reg = s.cfg.regFeed1 then s.feedRefusal b v else none
  | .eraRead b feed1 _ _ => s.feedRefusal b (feedOffByte s.cfg feed1)
  | .eraWrite b feed1 _ _ => s.feedRefusal b (feedOffByte s.cfg feed1)
  | .register _ _ _ _ => none
  | .unregister _ => none
  | .consumeReady _ => none
  | .clearReady _ => none
  | .cmdReserved _ => none
  | .irqBody _ => none
  | .decodeAbs _ _ _ _ _ _ => none
  | .decodeRel _ _ _ _ => none
  | .rapcmdRead _ _ => none
  | .rapcmdWrite _ _ => none
  | .eraCtrlReadInc _ => none
  | .eraCtrlWrite _ => none
  | .eraCtrlDone _ => none
  | .feedDisable b feed1 => s.feedRefusal b (feedOffByte s.cfg feed1)
  | .feedEnable b feed1 => s.feedRefusal b (feedOnByte s.cfg feed1)
  | .clearFlags _ => none
  | .eraPoll _ => none

/-- Feed byte `v` is the one the sensor of `b` was last given, but for the feed enable, which the block itself sets and
clears (R163 (2), (4), R109). A sensor that was given none in the model was configured before the run, with the byte the
host names (log 35). -/
def State.feedConfigured (s : State) (b : Binding) (v : Byte) : Bool :=
  match s.window b s.cfg.regFeed1 with
  | some w => decide (feedOffByte s.cfg w = feedOffByte s.cfg v)
  | none => true

/-- Why REGISTER is refused at its claim: a pin or a storage registered already (R174; log 16), a tag the owner has not
written, a data mode in disagreement with it, or with an attached slot of the sensor, a feed byte that is not the sensor's
(R163, R178; log 35). -/
def State.claimRefusal (s : State) (pin : Pin) (b : Binding) (feed1 : Byte) (storage : StorageRef) : Option Refusal :=
  if s.pinTaken pin then some .duplicatePin
  else if s.storageTaken storage then some .duplicateStorage
  else if (s.sample storage).tagged = false then some .tagNotWritten
  else if feedMode s.cfg feed1 ≠ (s.sample storage).mode ∨ s.modeConflict b feed1 then some .dataModeConflict
  else if s.feedConfigured b feed1 = false then some .feedByteMismatch
  else none

/-- The owner writes the tag (R24). The member the new tag does not select holds no value from then on, and the one it
selects what it held (R25; log 41). The sample stays covered (R55 (2)). -/
def Sample.retag (x : Sample) (m : Mode) : Sample :=
  { x with
    mode := m
    abs := if m = .absolute then x.abs else none
    rel := if m = .relative then x.rel else none
    tagged := true }

/-- A claimed slot uses the transport, the storage or the pin (R178). -/
def State.inUse (s : State) (x : Resource) : Bool :=
  s.slots.any fun y => y.claimed &&
    match x with
    | .transport tp => decide (y.rapRead = tp) || decide (y.rapWrite = tp)
    | .storage r => decide (y.sampleRef = r)
    | .pin p => decide (y.pin = p)

/-- A rising edge on pin `p`: the latch of every vector whose slot is attached to it is set (R143, R144). -/
def latchEdge (p : Pin) : List Slot → List Bool → List Bool
  | x :: xs, q :: qs => (q || (x.attached && decide (x.pin = p))) :: latchEdge p xs qs
  | _, qs => qs

/-- A rising edge on pin `p` (R143). -/
def State.edge (s : State) (p : Pin) : State := { s with pending := latchEdge p s.slots s.pending }

/-- A byte of the control register that ends the poll (R68, R94: the whole byte is compared with zero). -/
def pollDone (c : Byte) : Bool := decide (c = 0)

/-- The `polls`-th non-zero poll is the last one allowed (R94); never with no cap. -/
def capReached (c : Config) (polls : Nat) : Bool := decide (c.eraPollCap = some polls)

/-- Set flags in a status byte (R28). An unknown byte stays unknown, but for the simulated sensor, whose
registers start at zero (spec/95_test_vectors.md part 2). -/
def orFlag (d : DeviceModel) (mask : Byte) (old : Option Byte) : Option Byte :=
  match old with
  | some v => some (v ||| mask)
  | none => if d = .refSim then some mask else none

/-- The effect of a stored byte on the sensor's hidden state and line (R48, R30, R33): clearing the status
flags lowers the line, an address register loads the target, a non-zero control code starts an access, a feed
byte starts or stops the feed. `hi` and `lo` are the address registers after the store; one of them written alone loads
the target too (DESIGN CHOICE, log 8). A code written while an access is in progress replaces it, a zero leaves it in
progress, as in the simulated sensor, and an access starts whether or not the feed is on (DESIGN CHOICE, log 32, log 40,
log 34). -/
def sensorAfterStore (c : Config) (hi lo : Byte) (r : Reg) (v : Byte) (x : Sensor) : Sensor where
  ptr := x.ptr
  dir := x.dir
  target := if r = c.regEraAddrHi ∨ r = c.regEraAddrLo then addrOf hi lo else x.target
  pend := if r = c.regEraCtrl ∧ v ≠ 0 then v else x.pend
  feed := if r = c.regFeed1 then feedEnabled c v else x.feed
  line := if r = c.regStatus ∧ v = c.statusClear then false else x.line

end Sys2Proof.Machine
end

