-- ==== Sys2Proof/Machine/Ops.lean ====
section
/-! DEFINITION. The shared operations: what a sensor does with a command byte, a stored byte and a byte asked
of it (R26, R30, R33, R48, R62), the two frames (R83, R84), the steps made of one frame, dispatch of a vector
(taking an interrupt, R147) and return from it (R148). -/

namespace Sys2Proof.Machine

/-! The sensor's side of a frame. -/

/-- The sensor of `b` takes byte 0 of a frame: its marker says whether bytes are read or written, its low five
bits where (R62). What a sensor makes of any other byte is not in the source (R70): nothing changes. -/
def State.sensorCommand (s : State) (b : Binding) (cmd : Byte) : State :=
  if commandMarker cmd = s.cfg.readMarker then
    s.setSensor b { s.sensor b with ptr := commandReg cmd, dir := .reading }
  else if commandMarker cmd = s.cfg.writeMarker then
    s.setSensor b { s.sensor b with ptr := commandReg cmd, dir := .writing }
  else s

/-- The frame ends: the sensor awaits a command byte. -/
def State.endFrame (s : State) (b : Binding) : State := s.setSensor b { s.sensor b with dir := .idle }

/-- The sensor of `b` stores `v` in window register `r`, with the side effects of R48 (R84, R30). -/
def State.deviceStore (s : State) (b : Binding) (r : Reg) (v : Byte) : State :=
  let t := s.setWindow b r (some v)
  let hi := (t.window b s.cfg.regEraAddrHi).getD 0
  let lo := (t.window b s.cfg.regEraAddrLo).getD 0
  t.setSensor b (sensorAfterStore s.cfg hi lo r v (t.sensor b))

/-- What an extended write leaves in the value register, which the source does not say (U22): no known value, so
that a read of it is free (log 10); the simulated sensor keeps the byte. -/
def State.valueAfterWrite (s : State) (b : Binding) : Option Byte :=
  if deviceModel s.cfg b = .refSim then s.window b s.cfg.regEraValue else none

/-- The target address after an access with code `code` (R33 (b)): a read advances it, from 0xFFFF to 0 (DESIGN
CHOICE for any sensor but the simulated one, log 30); whether a write does is not in the source (U22), a free value
but for the simulated sensor, which does not (log 10). -/
def State.targetAfter (s : State) (b : Binding) (code : Byte) : EraAddr :=
  if code = s.cfg.eraCtrlReadInc then (s.sensor b).target + 1
  else if code = s.cfg.eraCtrlWrite ∧ deviceModel s.cfg b ≠ .refSim ∧ s.answer.flag then (s.sensor b).target + 1
  else (s.sensor b).target

/-- The extended access in progress at the sensor of `b` is complete (R30, R33, R97): a read leaves the byte at
the target address in the value register and advances the target, a write leaves the value register's byte at
the target address, and any other code transfers nothing (DESIGN CHOICE, log 31). The target and the value register are
those of this moment, not of the control code's, and the address registers keep what was written (DESIGN CHOICE for any
sensor but the simulated one, log 39). Then the control register reads zero and the command-complete flag is set (R28). Plain storage performs no access and changes nothing on its own (R88). -/
def State.completeAccess (s : State) (b : Binding) : State :=
  let c := s.cfg
  let x := s.sensor b
  let t :=
    if x.pend = c.eraCtrlReadInc then s.setWindow b c.regEraValue (s.eraByte b x.target)
    else if x.pend = c.eraCtrlWrite then
      (s.setEraByte b x.target (s.window b c.regEraValue)).setWindow b c.regEraValue (s.valueAfterWrite b)
    else s
  let u := t.setWindow b c.regEraCtrl (some 0)
  let v := u.setWindow b c.regStatus (orFlag (deviceModel c b) c.statusCcMask (u.window b c.regStatus))
  v.setSensor b { x with target := s.targetAfter b x.pend, pend := 0 }

/-- The byte the sensor of `b` presents at its read pointer, `drawn` being the environment's. A device that
answers freely presents that; plain storage presents what it holds, and what nothing has written is free (R88,
U2); the simulated sensor presents what it holds, zero at the start, but the code of an access in progress at
the control register (spec/95_test_vectors.md part 2). -/
def State.presented (s : State) (b : Binding) (drawn : Byte) : Byte :=
  let x := s.sensor b
  match deviceModel s.cfg b with
  | .oracle => drawn
  | .plainStorage => (s.window b x.ptr).getD drawn
  | .refSim => if x.ptr = s.cfg.regEraCtrl ∧ x.pend ≠ 0 then x.pend else (s.window b x.ptr).getD 0

/-- Whether the read of that byte is where the model sees the access in progress complete: the control
register of a freely answering device reads zero (R30; log 10), or the simulated sensor is polled once. -/
def State.completesOnRead (s : State) (b : Binding) (drawn : Byte) : Bool :=
  let x := s.sensor b
  decide (x.ptr = s.cfg.regEraCtrl) && decide (x.pend ≠ 0) &&
    match deviceModel s.cfg b with
    | .oracle => pollDone drawn
    | .plainStorage => false
    | .refSim => true

/-- The state after one byte is read: an access may be seen complete, and the pointer advances (R33 (a)), from 0x1F to
0 (DESIGN CHOICE, log 30; no later byte of the frame can show it, R45). -/
def State.afterByte (s : State) (b : Binding) (drawn : Byte) : State :=
  let t := if s.completesOnRead b drawn then s.completeAccess b else s
  t.setSensor b { t.sensor b with ptr := (t.sensor b).ptr + 1 }

/-- The sensor of `b` supplies `n` bytes in address-ascending order (R26, R42), the environment's bytes
numbered from `k`. -/
def deviceSupply (b : Binding) : Nat → Nat → State → List Byte × State
  | 0, _, s => ([], s)
  | n + 1, k, s =>
    let rest := deviceSupply b n (k + 1) (s.afterByte b (s.freeByte k))
    (s.presented b (s.freeByte k) :: rest.1, rest.2)

/-! The two frames. -/

/-- `MemRead(B, reg, n)` (R83): one read frame. The bytes, or none when the transport reports failure (R85);
the sensor then has the command byte or has it not (U4; log 20). -/
def State.memRead (s : State) (b : Binding) (reg : Reg) (n : Nat) : Option (List Byte) × State :=
  let c := s.sensorCommand b (readCommand s.cfg reg)
  if s.answer.fail then
    (none, (if s.answer.took then c.endFrame b else s).record (.readFailed b reg n))
  else
    let r := deviceSupply b n 0 c
    (some r.1, (r.2.endFrame b).record (.read b reg n r.1))

/-- The sensor takes a whole write frame: the command byte, then the data byte where the pointer stands. -/
def State.sensorWrite (s : State) (b : Binding) (reg : Reg) (v : Byte) : State :=
  let c := s.sensorCommand b (writeCommand s.cfg reg)
  (c.deviceStore b (c.sensor b).ptr v).endFrame b

/-- `MemWrite(B, reg, 1, v)` (R84): one write frame. Whether it was done; after a reported failure the sensor
took the byte or did not (U4; log 20). -/
def State.memWrite (s : State) (b : Binding) (reg : Reg) (v : Byte) : Bool × State :=
  if s.answer.fail then
    (false, (if s.answer.took then s.sensorWrite b reg v else s).record (.writeFailed b reg v))
  else (true, (s.sensorWrite b reg v).record (.write b reg v))

/-! Steps of a foreground operation made of one frame. -/

/-- Run `body` in the phase the operation `i` stands in, unless its operands, another operation in progress or a duty
of the host refuse it (R69, R178). -/
def State.accept (s : State) (i : Instr) (body : Phase → Host.Outcome State Fault Refusal) :
    Host.Outcome State Fault Refusal :=
  match operandRefusal s.cfg i with
  | some r => .refused r
  | none =>
    match s.phaseOf i with
    | none => .refused .operationInProgress
    | some p =>
      match s.modeRefusal i with
      | some r => .refused r
      | none => body p

/-- One write frame, then `k`; a failed frame returns `BusTransactionFailed` (R85, R98, R109). -/
def State.writeThen (s : State) (b : Binding) (reg : Reg) (v : Byte) (k : State → State) : State :=
  let r := s.memWrite b reg v
  if r.1 then k r.2 else r.2.raiseError .busTransactionFailed

/-- One read frame, then `k` with its bytes; a failed frame returns `BusTransactionFailed` (R85, R98). -/
def State.readThen (s : State) (b : Binding) (reg : Reg) (n : Nat) (k : List Byte → State → State) : State :=
  let r := s.memRead b reg n
  match r.1 with
  | some bytes => k bytes r.2
  | none => r.2.raiseError .busTransactionFailed

/-- A frame of an extended access faults while the sensor's feed is on (R165). -/
def State.eraGuard (s : State) (b : Binding) (t : State) : Host.Outcome State Fault Refusal :=
  if (s.sensor b).feed then .fault .eraWhileFeedOn else .next t

/-- FEED_DISABLE as one frame, then `k` (R90). -/
def State.feedDisableThen (s : State) (b : Binding) (feed1 : Byte) (k : State → State) : State :=
  s.writeThen b s.cfg.regFeed1 (feedOffByte s.cfg feed1) k

/-- FEED_ENABLE as one frame, then `k` (R91). -/
def State.feedEnableThen (s : State) (b : Binding) (feed1 : Byte) (k : State → State) : State :=
  s.writeThen b s.cfg.regFeed1 (feedOnByte s.cfg feed1) k

/-- CLEAR_FLAGS as one frame, then `k` (R92). -/
def State.clearFlagsThen (s : State) (b : Binding) (k : State → State) : State :=
  s.writeThen b s.cfg.regStatus s.cfg.statusClear k

/-- One poll of the control register (R94): zero goes on with `k`; a non-zero poll that is the cap's last
returns `UnresponsiveDevice`; any other stays in POLL (R99). -/
def State.pollThen (s : State) (i : Instr) (b : Binding) (k : State → State) : State :=
  s.readThen b s.cfg.regEraCtrl 1 fun bytes t =>
    if pollDone (bytes.getD 0 0) then k t
    else if capReached s.cfg (s.fg.polls + 1) then t.raiseError .unresponsiveDevice
    else (t.setFg { t.fg with polls := s.fg.polls + 1 }).goto i .poll

/-! Taking an interrupt and returning from it. -/

/-- Dispatch of vector `i` (R147) with step 0 of the body (R122): the latch is cleared, the slot's binding,
storage reference and the storage's tag are read, the phase is READ. Nothing else is saved or changed; reads
of the storage are no longer covered (R55 (2); log 13). -/
def State.dispatchVector (s : State) (i : Nat) : State :=
  let x := s.slot i
  let t := (s.setPending i false).setVec i
    { s.vec i with
      ph := .read
      rbind := ⟨x.rapRead, x.busAddress, x.busSpeed⟩
      wbind := ⟨x.rapWrite, x.busAddress, x.busSpeed⟩
      sref := x.sampleRef
      mode := (s.sample x.sampleRef).mode }
  t.setSample x.sampleRef { s.sample x.sampleRef with covered := false }

/-- Return from the body of vector `i` (R148): the phase is IDLE; the foreground goes on where it stands. -/
def State.returnVector (s : State) (i : Nat) : State := s.setVec i { s.vec i with ph := .idle }

/-- The body of vector `i` goes on to phase `p` (R131). -/
def State.vecGoto (s : State) (i : Nat) (p : VecPhase) : State := s.setVec i { s.vec i with ph := p }

/-- A bus failure in the body of vector `i`: the latch is set and the body returns (R128, R36). -/
def State.vecFail (s : State) (i : Nat) : State := (s.latchFault i).returnVector i

end Sys2Proof.Machine
end

