-- ==== Sys2Proof/Machine/Bus.lean ====
section
/-! DEFINITION. The bus-level codes (R62, R68) as the sensor of the frame's binding takes them (log 14). The
frames of Ops.lean are made of the same operations. -/

namespace Sys2Proof.Machine

/-- A bus-level code reaches the sensor of `b` by a transport that exists. -/
def State.onBus (s : State) (b : Binding) (t : State) : Host.Outcome State Fault Refusal :=
  match bindingRefusal s.cfg b with
  | some r => .refused r
  | none => .next t

/-- RAPCMD_READ (R61, R62): byte 0 of a read frame from register `a`. -/
def execRapcmdRead (b : Binding) (a : Reg) (s : State) : Host.Outcome State Fault Refusal :=
  s.onBus b (s.sensorCommand b (readCommand s.cfg a))

/-- RAPCMD_WRITE (R61, R62): byte 0 of a write frame to register `a`. -/
def execRapcmdWrite (b : Binding) (a : Reg) (s : State) : Host.Outcome State Fault Refusal :=
  s.onBus b (s.sensorCommand b (writeCommand s.cfg a))

/-- ERA_CTRL_READ_INC (R68, R30): the control register takes the code; an extended read at the target address
starts, whether or not the feed is on (log 34). -/
def execEraCtrlReadInc (b : Binding) (s : State) : Host.Outcome State Fault Refusal :=
  s.onBus b (s.deviceStore b s.cfg.regEraCtrl s.cfg.eraCtrlReadInc)

/-- ERA_CTRL_WRITE (R68, R30): the control register takes the code; an extended write to the target address
starts, whether or not the feed is on (log 34). -/
def execEraCtrlWrite (b : Binding) (s : State) : Host.Outcome State Fault Refusal :=
  s.onBus b (s.deviceStore b s.cfg.regEraCtrl s.cfg.eraCtrlWrite)

/-- ERA_CTRL_DONE (R68, R30): the control register reads zero, the access in progress is complete. With none
in progress it reads zero and nothing else happens. Plain storage performs no access and its registers stay as they
were written (R88; log 10). -/
def execEraCtrlDone (b : Binding) (s : State) : Host.Outcome State Fault Refusal :=
  s.onBus b (if deviceModel s.cfg b = .plainStorage then s
    else if (s.sensor b).pend = 0 then s.setWindow b s.cfg.regEraCtrl (some 0) else s.completeAccess b)

end Sys2Proof.Machine
end

