-- ==== Sys2Proof/Machine/Era.lean ====
section
/-! DEFINITION. Extended register access (spec/41_era.md): ERA_READ and ERA_WRITE, one frame a step, in the
phases of R100. -/

namespace Sys2Proof.Machine

/-- The first frame of an extended access: the feed is disabled and the working values are cleared (R93, R95,
R96). It is the one frame R165 lets through with the feed on. -/
def State.eraStart (s : State) (i : Instr) (b : Binding) (feed1 : Byte) (p : Phase) : State :=
  s.feedDisableThen b feed1 fun t => (t.setFg Fg.idle).goto i p

/-- The handshake of a control code: the code is written and the polls are counted from zero (R94, R95, R96). -/
def State.eraControl (s : State) (i : Instr) (b : Binding) (code : Byte) : State :=
  s.writeThen b s.cfg.regEraCtrl code fun t => (t.setFg { t.fg with polls := 0 }).goto i .poll

/-- After a byte of ERA_READ is read and the flags are cleared: the next byte, or the return (R95, R100). -/
def State.eraNextByte (s : State) (i : Instr) (n : Nat) : State :=
  if s.fg.k + 1 < n then (s.setFg { s.fg with k := s.fg.k + 1 }).goto i .ctrl
  else s.ret { st := .ok, rbytes := some s.fg.bytes }

/-- ERA_READ in phase `p` (R95, R100). -/
def eraReadPhase (b : Binding) (feed1 : Byte) (addr : EraAddr) (n : Byte) (s : State) (p : Phase) :
    Host.Outcome State Fault Refusal :=
  let i := Instr.eraRead b feed1 addr n
  match p with
  | .idle => .next (s.eraStart i b feed1 .addrHi)
  | .feedOff => .next (s.eraStart i b feed1 .addrHi)
  | .addrHi => s.eraGuard b (s.writeThen b s.cfg.regEraAddrHi (addrHigh addr) fun t => t.goto i .addrLo)
  | .addrLo =>
    s.eraGuard b (s.writeThen b s.cfg.regEraAddrLo (addrLow addr) fun t =>
      if n.toNat = 0 then t.ret { st := .ok, rbytes := some [] } else t.goto i .ctrl)
  | .ctrl => s.eraGuard b (s.eraControl i b s.cfg.eraCtrlReadInc)
  | .poll => s.eraGuard b (s.pollThen i b fun t => t.goto i .value)
  | .value =>
    s.eraGuard b (s.readThen b s.cfg.regEraValue 1 fun bytes t =>
      (t.setFg { t.fg with bytes := t.fg.bytes ++ bytes }).goto i .clear)
  | .clear => s.eraGuard b (s.clearFlagsThen b fun t => t.eraNextByte i n.toNat)
  | .valueW => .refused .foreignPhase
  | .line _ => .refused .foreignPhase

/-- ERA_READ (R95): the step it stands at. -/
def execEraRead (b : Binding) (feed1 : Byte) (addr : EraAddr) (n : Byte) (s : State) :
    Host.Outcome State Fault Refusal :=
  s.accept (.eraRead b feed1 addr n) (eraReadPhase b feed1 addr n s)

/-- ERA_WRITE in phase `p` (R96, R100). -/
def eraWritePhase (b : Binding) (feed1 : Byte) (addr : EraAddr) (data : Byte) (s : State) (p : Phase) :
    Host.Outcome State Fault Refusal :=
  let i := Instr.eraWrite b feed1 addr data
  match p with
  | .idle => .next (s.eraStart i b feed1 .valueW)
  | .feedOff => .next (s.eraStart i b feed1 .valueW)
  | .valueW => s.eraGuard b (s.writeThen b s.cfg.regEraValue data fun t => t.goto i .addrHi)
  | .addrHi => s.eraGuard b (s.writeThen b s.cfg.regEraAddrHi (addrHigh addr) fun t => t.goto i .addrLo)
  | .addrLo => s.eraGuard b (s.writeThen b s.cfg.regEraAddrLo (addrLow addr) fun t => t.goto i .ctrl)
  | .ctrl => s.eraGuard b (s.eraControl i b s.cfg.eraCtrlWrite)
  | .poll => s.eraGuard b (s.pollThen i b fun t => t.goto i .clear)
  | .clear => s.eraGuard b (s.clearFlagsThen b fun t => t.ret { st := .ok })
  | .value => .refused .foreignPhase
  | .line _ => .refused .foreignPhase

/-- ERA_WRITE (R96): the step it stands at. -/
def execEraWrite (b : Binding) (feed1 : Byte) (addr : EraAddr) (data : Byte) (s : State) :
    Host.Outcome State Fault Refusal :=
  s.accept (.eraWrite b feed1 addr data) (eraWritePhase b feed1 addr data s)

end Sys2Proof.Machine
end

