-- ==== Sys2Proof/Machine/Interrupt.lean ====
section
/-! DEFINITION. The interrupt body and the sample decoder (spec/43_interrupt_body.md): DECODE_ABS, DECODE_REL,
IRQ_BODY. -/

namespace Sys2Proof.Machine

/-- The absolute sample six packet bytes stand for (R124, R44). -/
def decodeAbsolute (b0 _b1 b2 b3 b4 b5 : Byte) : AbsSample :=
  let x : BitVec 16 := b2.setWidth 16 ||| ((b4 &&& 0x0F).setWidth 16 <<< 8)
  let y : BitVec 16 := b3.setWidth 16 ||| ((b4 &&& 0xF0).setWidth 16 <<< 4)
  { x := x
    y := y
    z := b5 &&& 0x3F
    buttons := b0 &&& 0x3F
    touching := decide (x ≠ 0) }

/-- The relative sample four packet bytes stand for (R125); `s8` is the integer of the byte (R7). -/
def decodeRelative (b0 b1 b2 b3 : Byte) : RelSample where
  buttons := b0 &&& 0x07
  dx := b1.toInt
  dy := b2.toInt
  scroll := b3.toInt

/-- DECODE_ABS (R124, R126): nothing but its result is written (log 12). -/
def execDecodeAbs (b0 b1 b2 b3 b4 b5 : Byte) (s : State) : Host.Outcome State Fault Refusal :=
  .next { s with fnResult := .abs (decodeAbsolute b0 b1 b2 b3 b4 b5) }

/-- DECODE_REL (R125, R126): nothing but its result is written (log 12). -/
def execDecodeRel (b0 b1 b2 b3 : Byte) (s : State) : Host.Outcome State Fault Refusal :=
  .next { s with fnResult := .rel (decodeRelative b0 b1 b2 b3) }

/-- Step 1, READ: the packet goes into the raw buffer through the stored `rap_read`. After a failed frame the
bytes the packet would have filled are free (R122, R128; log 21). -/
def State.bodyRead (s : State) (i : Nat) : State :=
  let v := s.vec i
  let len := packetLen v.mode
  let r := s.memRead v.rbind s.cfg.regPktBase len
  match r.1 with
  | some bytes =>
    (r.2.setSlot i { r.2.slot i with raw := fillRaw (r.2.slot i).raw bytes len }).vecGoto i .stamp
  | none =>
    (r.2.setSlot i { r.2.slot i with raw := fillRaw (r.2.slot i).raw (s.freeBytes len) len }).vecFail i

/-- Step 2, STAMP: the time goes into the storage (R122, R123, R152). -/
def State.bodyStamp (s : State) (i : Nat) : State :=
  let r := (s.vec i).sref
  (s.setSample r { s.sample r with timestamp := s.now }).vecGoto i .clear

/-- Step 3, CLEAR: the status flags are cleared through the stored `rap_write` (R122, R128). -/
def State.bodyClear (s : State) (i : Nat) : State :=
  let r := s.memWrite (s.vec i).wbind s.cfg.regStatus s.cfg.statusClear
  if r.1 then r.2.vecGoto i .decode else r.2.vecFail i

/-- The member of a storage that the tag selects, decoded from the raw buffer; the other member stays (R122,
R126). -/
def decodeInto (m : Mode) (raw : Raw) (x : Sample) : Sample :=
  match m with
  | .absolute => { x with abs := some (decodeAbsolute raw.b0 raw.b1 raw.b2 raw.b3 raw.b4 raw.b5) }
  | .relative => { x with rel := some (decodeRelative raw.b0 raw.b1 raw.b2 raw.b3) }

/-- Step 4, DECODE (R122, R124, R125). -/
def State.bodyDecode (s : State) (i : Nat) : State :=
  let v := s.vec i
  (s.setSample v.sref (decodeInto v.mode (s.slot i).raw (s.sample v.sref))).vecGoto i .setReady

/-- Steps 5 and 6, SETREADY and the return (R122, R131, R148). -/
def State.bodySetReady (s : State) (i : Nat) : State := (s.setReady i true).returnVector i

/-- IRQ_BODY (R122, R131): the step vector `i` stands at; in IDLE, its dispatch where R147 allows it. -/
def execIrqBody (i : Nat) (s : State) : Host.Outcome State Fault Refusal :=
  match operandRefusal s.cfg (.irqBody i) with
  | some r => .refused r
  | none =>
    match (s.vec i).ph with
    | .idle => if s.canDispatch i then .next (s.dispatchVector i) else .refused .dispatchNotAllowed
    | .read => .next (s.bodyRead i)
    | .stamp => .next (s.bodyStamp i)
    | .clear => .next (s.bodyClear i)
    | .decode => .next (s.bodyDecode i)
    | .setReady => .next (s.bodySetReady i)

end Sys2Proof.Machine
end

