-- ==== Sys2Proof/Machine/Pseudo.lean ====
section
/-! DEFINITION. The pseudo-operations (R73): each does what the operations it expands to do (log 14). -/

namespace Sys2Proof.Machine

/-- FEED_DISABLE (R90): `RAP_WRITE B, REG_FEED1, feed1 & ~FEED1_EN_MASK`. -/
def execFeedDisable (b : Binding) (feed1 : Byte) (s : State) : Host.Outcome State Fault Refusal :=
  s.accept (.feedDisable b feed1) fun _ => .next (s.feedDisableThen b feed1 fun t => t.ret { st := .ok })

/-- FEED_ENABLE (R91): `RAP_WRITE B, REG_FEED1, feed1 | FEED1_EN_MASK`. -/
def execFeedEnable (b : Binding) (feed1 : Byte) (s : State) : Host.Outcome State Fault Refusal :=
  s.accept (.feedEnable b feed1) fun _ => .next (s.feedEnableThen b feed1 fun t => t.ret { st := .ok })

/-- CLEAR_FLAGS (R92): `RAP_WRITE B, REG_STATUS, STATUS_CLEAR`. -/
def execClearFlags (b : Binding) (s : State) : Host.Outcome State Fault Refusal :=
  s.accept (.clearFlags b) fun _ => .next (s.clearFlagsThen b fun t => t.ret { st := .ok })

/-- ERA_POLL (R94): one `RAP_READ B, REG_ERA_CTRL, 1` a step until it reads zero; the polls are counted from
zero. -/
def execEraPoll (b : Binding) (s : State) : Host.Outcome State Fault Refusal :=
  s.accept (.eraPoll b) fun p =>
    match p with
    | .idle =>
      s.eraGuard b ((s.setFg Fg.idle).pollThen (.eraPoll b) b fun t => t.ret { st := .ok })
    | .poll => s.eraGuard b (s.pollThen (.eraPoll b) b fun t => t.ret { st := .ok })
    | _ => .refused .foreignPhase

end Sys2Proof.Machine
end

