-- ==== Sys2Proof/Machine/Rap.lean ====
section
/-! DEFINITION. Basic register access (spec/40_rap.md): RAP_READ, RAP_WRITE, and the op values that select no
operation (R69). -/

namespace Sys2Proof.Machine

/-- RAP_READ (R80): one read frame; the answer carries its bytes. -/
def execRapRead (b : Binding) (reg : Reg) (count : BitVec 6) (s : State) : Host.Outcome State Fault Refusal :=
  s.accept (.rapRead b reg count) fun _ =>
    .next (s.readThen b reg count.toNat fun bytes t => t.ret { st := .ok, rbytes := some bytes })

/-- RAP_WRITE (R81): one write frame. -/
def execRapWrite (b : Binding) (reg : Reg) (data : Byte) (s : State) : Host.Outcome State Fault Refusal :=
  s.accept (.rapWrite b reg data) fun _ =>
    .next (s.writeThen b reg data fun t => t.ret { st := .ok })

/-- `op` 0x8 to 0xF (R69): no operation; refused. -/
def execCmdReserved (low : BitVec 3) (s : State) : Host.Outcome State Fault Refusal :=
  s.accept (.cmdReserved low) fun _ => .refused .reservedOp

end Sys2Proof.Machine
end

