-- ==== Sys2Proof/Machine/SlotTable.lean ====
section
/-! DEFINITION. The slot table operations (spec/42_slot_table.md): REGISTER and UNREGISTER, one numbered line a
step, CONSUME_READY and CLEAR_READY. -/

namespace Sys2Proof.Machine

/-- Line 3 of REGISTER: the claim, one action inside `mask_irq` (R107). -/
def State.claim (s : State) (i : Nat) (b : Binding) (r : StorageRef) : State :=
  s.maskIrq fun t => t.setSlot i { t.slot i with
    claimed := true
    busAddress := b.busAddress
    busSpeed := b.busSpeed
    rapRead := b.tp
    rapWrite := b.tp
    sampleRef := r
    ready := false }

/-- Line 4 of REGISTER: `Attach(pin, i)`; the platform's routing is the pairs of attached slots (R23, R108). -/
def State.attach (s : State) (i : Nat) (p : Pin) : State :=
  s.setSlot i { s.slot i with pin := p, attached := true }

/-- Line 1 of UNREGISTER: an attached slot is detached and its latched edge discarded (R110). -/
def State.detach (s : State) (i : Nat) : State :=
  if (s.slot i).attached then (s.setAttached i false).setPending i false else s

/-- Line 2 of UNREGISTER: the release, inside `mask_irq` (R110). -/
def State.release (s : State) (i : Nat) : State := s.maskIrq fun t => t.setClaimed i false

/-- REGISTER at line `k` (R105 to R109). The duplicates of R174 and the duties of R163 and R178 are looked for at the
claim (log 16, log 35). -/
def registerLine (pin : Pin) (b : Binding) (feed1 : Byte) (storage : StorageRef) (s : State) (k : Nat) :
    Host.Outcome State Fault Refusal :=
  let i := Instr.register pin b feed1 storage
  match k with
  | 1 =>
    if irqCapable s.cfg pin then .next ((s.setFg Fg.idle).goto i (.line 2))
    else .next (s.raiseError .notAnInterruptPin)
  | 2 =>
    match s.freeSlot with
    | some j => .next ((s.setFg { s.fg with slot := j }).goto i (.line 3))
    | none => .next (s.raiseError .outOfSlots)
  | 3 =>
    match s.claimRefusal pin b feed1 storage with
    | some r => .refused r
    | none => .next ((s.claim s.fg.slot b storage).goto i (.line 4))
  | 4 => .next ((s.attach s.fg.slot pin).goto i (.line 5))
  | 5 => .next (s.feedDisableThen b feed1 fun t => t.goto i (.line 6))
  | 6 => .next (s.clearFlagsThen b fun t => t.goto i (.line 7))
  | 7 => .next (s.feedEnableThen b feed1 fun t => t.goto i (.line 8))
  | 8 => .next (s.ret { st := .ok, rslot := some s.fg.slot })
  | _ => .refused .foreignPhase

/-- REGISTER (R105): the line it stands at. -/
def execRegister (pin : Pin) (b : Binding) (feed1 : Byte) (storage : StorageRef) (s : State) :
    Host.Outcome State Fault Refusal :=
  s.accept (.register pin b feed1 storage) fun p =>
    match p with
    | .idle => registerLine pin b feed1 storage s 1
    | .line k => registerLine pin b feed1 storage s k
    | _ => .refused .foreignPhase

/-- UNREGISTER at line `k` (R110). -/
def unregisterLine (i : Nat) (s : State) (k : Nat) : Host.Outcome State Fault Refusal :=
  match k with
  | 1 => .next (((s.detach i).setFg Fg.idle).goto (.unregister i) (.line 2))
  | 2 => .next ((s.release i).goto (.unregister i) (.line 3))
  | 3 => .next (s.ret { st := .ok })
  | _ => .refused .foreignPhase

/-- UNREGISTER (R110): the line it stands at. -/
def execUnregister (i : Nat) (s : State) : Host.Outcome State Fault Refusal :=
  s.accept (.unregister i) fun p =>
    match p with
    | .idle => unregisterLine i s 1
    | .line k => unregisterLine i s k
    | _ => .refused .foreignPhase

/-- What CONSUME_READY answers: the ready flag of a claimed slot, a free value for an unclaimed one (R111). -/
def State.readyAnswer (s : State) (i : Nat) : Bool :=
  if (s.slot i).claimed then (s.slot i).ready else s.answer.flag

/-- A claimed slot whose flag was seen set: reads of its storage are covered until the next dispatch of its
vector (R55 (2); log 13). -/
def State.coverSample (s : State) (i : Nat) : State :=
  if (s.slot i).claimed ∧ (s.slot i).ready then
    s.setSample (s.slot i).sampleRef { s.sample (s.slot i).sampleRef with covered := true }
  else s

/-- CONSUME_READY (R111): reads the flag and does not clear it. -/
def execConsumeReady (i : Nat) (s : State) : Host.Outcome State Fault Refusal :=
  s.accept (.consumeReady i) fun _ =>
    .next ((s.coverSample i).ret { st := .ok, rbool := some (s.readyAnswer i) })

/-- CLEAR_READY (R112). Reads of the storage stay covered until the next dispatch (R55 (2); log 13). -/
def execClearReady (i : Nat) (s : State) : Host.Outcome State Fault Refusal :=
  s.accept (.clearReady i) fun _ => .next ((s.setReady i false).ret { st := .ok })

end Sys2Proof.Machine
end

