-- ==== Sys2Proof/Machine/Dispatch.lean ====
section
/-! DEFINITION. One arm for each constructor of Instr: what one step of the machine does when that instruction
is the one being run. -/

namespace Sys2Proof.Machine

def exec (i : Instr) (s : State) : Host.Outcome State Fault Refusal :=
  match i with
  | .rapRead b reg count => Sys2Proof.Machine.execRapRead b reg count s
  | .rapWrite b reg data => Sys2Proof.Machine.execRapWrite b reg data s
  | .eraRead b feed1 addr n => Sys2Proof.Machine.execEraRead b feed1 addr n s
  | .eraWrite b feed1 addr data => Sys2Proof.Machine.execEraWrite b feed1 addr data s
  | .register pin b feed1 storage => Sys2Proof.Machine.execRegister pin b feed1 storage s
  | .unregister slot => Sys2Proof.Machine.execUnregister slot s
  | .consumeReady slot => Sys2Proof.Machine.execConsumeReady slot s
  | .clearReady slot => Sys2Proof.Machine.execClearReady slot s
  | .cmdReserved low => Sys2Proof.Machine.execCmdReserved low s
  | .irqBody k => Sys2Proof.Machine.execIrqBody k s
  | .decodeAbs b0 b1 b2 b3 b4 b5 => Sys2Proof.Machine.execDecodeAbs b0 b1 b2 b3 b4 b5 s
  | .decodeRel b0 b1 b2 b3 => Sys2Proof.Machine.execDecodeRel b0 b1 b2 b3 s
  | .rapcmdRead b a => Sys2Proof.Machine.execRapcmdRead b a s
  | .rapcmdWrite b a => Sys2Proof.Machine.execRapcmdWrite b a s
  | .eraCtrlReadInc b => Sys2Proof.Machine.execEraCtrlReadInc b s
  | .eraCtrlWrite b => Sys2Proof.Machine.execEraCtrlWrite b s
  | .eraCtrlDone b => Sys2Proof.Machine.execEraCtrlDone b s
  | .feedDisable b feed1 => Sys2Proof.Machine.execFeedDisable b feed1 s
  | .feedEnable b feed1 => Sys2Proof.Machine.execFeedEnable b feed1 s
  | .clearFlags b => Sys2Proof.Machine.execClearFlags b s
  | .eraPoll b => Sys2Proof.Machine.execEraPoll b s

end Sys2Proof.Machine
end

