-- ==== Sys2Proof/Machine/Agents.lean ====
section
/-! DEFINITION. Who moves: the running body, the foreground agent, the platform's dispatch (R147, R149, R156),
and the moves of the outside world (R72, R178; log 9). -/

namespace Sys2Proof.Machine

/-! Sample storage as the host reads it. -/

/-- The integer a Boolean field is read as. -/
def boolInt (v : Bool) : Int := if v then 1 else 0

/-- The number a tag is read as: 0 for ABSOLUTE, 1 for RELATIVE (DESIGN CHOICE, log 13). -/
def modeInt (m : Mode) : Int :=
  match m with
  | .absolute => 0
  | .relative => 1

/-- The mode whose member a field belongs to; none for the tag and the timestamp (R24, R25). -/
def fieldMode (f : SampleField) : Option Mode :=
  match f with
  | .mode => none
  | .timestamp => none
  | .absX => some .absolute
  | .absY => some .absolute
  | .absZ => some .absolute
  | .absButtons => some .absolute
  | .absTouching => some .absolute
  | .relButtons => some .relative
  | .relDx => some .relative
  | .relDy => some .relative
  | .relScroll => some .relative

/-- The value a field holds, if its member holds one (R24, R25). -/
def fieldValue (x : Sample) (f : SampleField) : Option Int :=
  match f with
  | .mode => some (modeInt x.mode)
  | .timestamp => some x.timestamp
  | .absX => x.abs.map (fun a => (a.x.toNat : Int))
  | .absY => x.abs.map (fun a => (a.y.toNat : Int))
  | .absZ => x.abs.map (fun a => (a.z.toNat : Int))
  | .absButtons => x.abs.map (fun a => (a.buttons.toNat : Int))
  | .absTouching => x.abs.map (fun a => boolInt a.touching)
  | .relButtons => x.rel.map (fun r => (r.buttons.toNat : Int))
  | .relDx => x.rel.map (·.dx)
  | .relDy => x.rel.map (·.dy)
  | .relScroll => x.rel.map (·.scroll)

/-- A free value within the range R24 gives the field (R166; log 13). -/
def fieldDraw (c : Config) (k : Nat) (f : SampleField) : Int :=
  match f with
  | .mode => ((BitVec.ofNat 1 k).toNat : Int)
  | .timestamp => ((k % 2 ^ c.timeWidth : Nat) : Int)
  | .absX => ((BitVec.ofNat 12 k).toNat : Int)
  | .absY => ((BitVec.ofNat 12 k).toNat : Int)
  | .absZ => ((BitVec.ofNat 6 k).toNat : Int)
  | .absButtons => ((BitVec.ofNat 6 k).toNat : Int)
  | .absTouching => ((BitVec.ofNat 1 k).toNat : Int)
  | .relButtons => ((BitVec.ofNat 3 k).toNat : Int)
  | .relDx => (BitVec.ofNat 8 k).toInt
  | .relDy => (BitVec.ofNat 8 k).toInt
  | .relScroll => (BitVec.ofNat 8 k).toInt

/-- What the host reads: the stored value where R55 covers the read, else a free one (R166, R167). The tag is the
owner's own and always reads as written (R24; log 13). -/
def State.loadValue (s : State) (r : StorageRef) (f : SampleField) : Int :=
  if (s.sample r).covered ∨ f = .mode then (fieldValue (s.sample r) f).getD (fieldDraw s.cfg s.answer.value f)
  else fieldDraw s.cfg s.answer.value f

/-- The host reads a field (R72, R178): the member the tag does not select holds no value (R25). -/
def State.load (s : State) (r : StorageRef) (f : SampleField) : Host.Outcome State Fault Refusal :=
  if fieldMode f = none ∨ fieldMode f = some (s.sample r).mode then
    .next { s with loaded := s.loadValue r f :: s.loaded }
  else .fault .unselectedMember

/-- The owning instance writes the tag of its storage, unless an attached slot refers to it (R24, R25, R173; log 41). -/
def State.writeMode (s : State) (r : StorageRef) (m : Mode) : Host.Outcome State Fault Refusal :=
  if s.storageAttached r then .refused .modeWhileAttached
  else .next (s.setSample r ((s.sample r).retag m))

/-- The host takes a transport, a storage or a pin away, unless a claimed slot uses it (R178). A storage is then one
that nothing has written; the block keeps nothing of a transport or a pin no claimed slot uses (log 36). -/
def State.discard (s : State) (x : Resource) : Host.Outcome State Fault Refusal :=
  if s.inUse x then .refused .resourceInUse
  else
    match x with
    | .transport _ => .next s
    | .storage r => .next (s.setSample r Sample.reset)
    | .pin _ => .next s

/-! The sensor's and the platform's own doings. -/

/-- The sensor of `b` puts packet bytes, numbered from `k`, into its packet registers (R31). -/
def storePacket (b : Binding) : Nat → List Byte → State → State
  | _, [], s => s
  | k, v :: vs, s => storePacket b (k + 1) vs (s.setWindow b (s.cfg.regPktBase + BitVec.ofNat 5 k) (some v))

/-- The line of the sensor of `b` goes high; a change from low is a rising edge on its pin (R34, R143). -/
def State.raiseLine (s : State) (b : Binding) : State :=
  if (s.sensor b).line then s
  else
    let t := s.setSensor b { s.sensor b with line := true }
    match wiredPin s.cfg b with
    | some p => t.edge p
    | none => t

/-- The sensor of `b` produces a sample: with its feed on, the packet registers and the data-ready flag are
written and the line goes high; with it off, nothing happens (R28, R31, R34, R141; log 17). Plain storage changes
nothing on its own (R88). -/
def State.deviceSample (s : State) (b : Binding) (bytes : List Byte) : State :=
  if (s.sensor b).feed ∧ deviceModel s.cfg b ≠ .plainStorage then
    let t := storePacket b 0 (bytes.take absLen) s
    let u := t.setWindow b s.cfg.regStatus
      (orFlag (deviceModel s.cfg b) s.cfg.statusDrMask (t.window b s.cfg.regStatus))
    u.raiseLine b
  else s

/-- An agent outside the block writes the feed byte of the sensor of `b`: the sensor takes it as it takes a write of the
block (R93, R48 (d); log 38), unless it changes the data mode under an attached slot (R178). -/
def State.otherFeed (s : State) (b : Binding) (v : Byte) : Host.Outcome State Fault Refusal :=
  match s.feedRefusal b v with
  | some r => .refused r
  | none => .next (s.deviceStore b s.cfg.regFeed1 v)

/-- Power goes and comes back: the block is in its reset state and nothing is known of the sensors (R158,
R160). The parameters and the outside world's own records stay (log 24). -/
def State.powerCycled (s : State) : State :=
  { State.resetWith s.cfg with
    trace := s.trace, loaded := s.loaded, moves := s.moves, answers := s.answers, clock := s.clock }

/-! The agents. -/

/-- The foreground agent takes its step: the operation in progress goes on; else the port's word is taken and
its operation does its first step; else the block waits (R19, R65, R160). -/
def foregroundStep (s : State) : Host.Outcome State Fault Refusal :=
  match s.fg.op with
  | some i => exec i s
  | none =>
    match s.port with
    | none => .next s
    | some w =>
      match decode s.cfg w with
      | .error r => .refused (.undecodable r)
      | .ok i => exec i s.takePort

/-- The agent in turn takes its step: a running body before the foreground (R149, R156). -/
def agentStep (s : State) : Host.Outcome State Fault Refusal :=
  match s.running with
  | some i => exec (.irqBody i) s
  | none => foregroundStep s

/-- The binding of the frame that instruction `i` issues in phase `p`, if that step is one (R80, R81, R94 to R96,
R105). -/
def frameBinding (i : Instr) (p : Phase) : Option Binding :=
  match i with
  | .rapRead b _ _ => some b
  | .rapWrite b _ _ => some b
  | .eraRead b _ _ _ => some b
  | .eraWrite b _ _ _ => some b
  | .register _ b _ _ => if p = .line 5 ∨ p = .line 6 ∨ p = .line 7 then some b else none
  | .unregister _ => none
  | .consumeReady _ => none
  | .clearReady _ => none
  | .cmdReserved _ => none
  | .irqBody _ => none
  | .decodeAbs _ _ _ _ _ _ => none
  | .decodeRel _ _ _ _ => none
  | .rapcmdRead b _ => some b
  | .rapcmdWrite b _ => some b
  | .eraCtrlReadInc b => some b
  | .eraCtrlWrite b => some b
  | .eraCtrlDone b => some b
  | .feedDisable b _ => some b
  | .feedEnable b _ => some b
  | .clearFlags b => some b
  | .eraPoll b => some b

/-- The instruction whose step is the foreground agent's next one: the operation in progress, else the port's. -/
def State.nextInstr (s : State) : Option Instr :=
  match s.fg.op with
  | some i => some i
  | none =>
    match s.port with
    | none => none
    | some w =>
      match decode s.cfg w with
      | .error _ => none
      | .ok i => some i

/-- The binding of the frame the foreground agent's next step issues, if it issues one. -/
def State.nextFrame (s : State) : Option Binding :=
  match s.nextInstr with
  | none => none
  | some i =>
    if operandRefusal s.cfg i = none ∧ s.modeRefusal i = none then (s.phaseOf i).bind (frameBinding i) else none

/-- Vector `i` is dispatched inside the frame of the foreground's next step (R147, R168): undefined if its binding
is on that frame's bus. Frames on different buses are independent (R87), so on another bus, or with no frame
there, it is the dispatch before that step (log 25). -/
def State.dispatchInside (s : State) (i : Nat) : Host.Outcome State Fault Refusal :=
  match s.nextFrame with
  | some b => if sameBus b (s.slot i).binding then .fault .sharedBusFrame else exec (.irqBody i) s
  | none => exec (.irqBody i) s

/-- The platform dispatches vector `i`, between two steps or inside the foreground's frame (R147, R168). -/
def State.dispatchFreely (s : State) (i : Nat) : Host.Outcome State Fault Refusal :=
  if s.answer.inside then s.dispatchInside i else exec (.irqBody i) s

/-- How many steps the platform may still put off a dispatch: what is left of the wait, or a free number where it has
not begun (R147; log 37). -/
def State.waitLeft (s : State) : Nat := s.patience.getD s.answer.delay

/-- A step with no move written out: the platform freely dispatches one of the vectors it may, or puts it off while its
finite wait lasts, and then the agent in turn goes (R145, R147, R168; log 9, log 37). -/
def freeStep (s : State) : Host.Outcome State Fault Refusal :=
  match s.candidates with
  | [] => agentStep s
  | i :: is =>
    if s.answer.choice < is.length + 1 ∨ s.waitLeft = 0 then
      s.dispatchFreely ((i :: is).getD (s.answer.choice % (is.length + 1)) i)
    else agentStep { s with patience := some (s.waitLeft - 1) }

/-- Whether a move is the host's own but for the interrupt enable: it waits for the operation in progress to
return (R178 "present one operation at a time and wait for its return"; log 9). -/
def Move.waitsForReturn : Move → Bool
  | .present _ => true
  | .setIE _ => false
  | .writeMode _ _ => true
  | .load _ _ => true
  | .discard _ => true
  | .await => true
  | .run => false
  | .dispatch _ => false
  | .dispatchInFrame _ => false
  | .pulse _ => false
  | .otherFeed _ _ => false
  | .sample _ _ => false
  | .powerCycle => false

/-- Whether a move is the host's own: the host is suspended while a body runs (R147). -/
def Move.isHost : Move → Bool
  | .present _ => true
  | .setIE _ => true
  | .writeMode _ _ => true
  | .load _ _ => true
  | .discard _ => true
  | .await => true
  | .run => false
  | .dispatch _ => false
  | .dispatchInFrame _ => false
  | .pulse _ => false
  | .otherFeed _ _ => false
  | .sample _ _ => false
  | .powerCycle => false

/-- An operation is presented or in progress. -/
def State.hostBusy (s : State) : Bool := s.fg.op.isSome || s.port.isSome

/-- Whether a move has to wait in state `s`. -/
def State.mustWait (s : State) (m : Move) : Bool :=
  (m.waitsForReturn && s.hostBusy) || (m.isHost && s.running.isSome)

/-- Whether a move presents an operation (R156, R179). -/
def Move.presents : Move → Bool
  | .present _ => true
  | .setIE _ => false
  | .writeMode _ _ => false
  | .load _ _ => false
  | .discard _ => false
  | .await => false
  | .run => false
  | .dispatch _ => false
  | .dispatchInFrame _ => false
  | .pulse _ => false
  | .otherFeed _ _ => false
  | .sample _ _ => false
  | .powerCycle => false

/-- A move happens (R23, R72, R93, R143, R147, R158, R178). A dispatch that R147 does not allow does not happen. A
pulse is an edge on the pin itself: it asks nothing of a sensor's line or feed and leaves them as they were (DESIGN
CHOICE, log 33). -/
def doMove (m : Move) (s : State) : Host.Outcome State Fault Refusal :=
  match m with
  | .present w => .next { s with port := some w }
  | .setIE v => .next (s.setIe v)
  | .writeMode r md => s.writeMode r md
  | .load r f => s.load r f
  | .discard x => s.discard x
  | .await => .next s
  | .run => agentStep s
  | .dispatch i => if i < s.cfg.nSlots ∧ s.canDispatch i then exec (.irqBody i) s else .next s
  | .dispatchInFrame i => if i < s.cfg.nSlots ∧ s.canDispatch i then s.dispatchInside i else .next s
  | .pulse p => .next (s.edge p)
  | .otherFeed b v => s.otherFeed b v
  | .sample b bytes => .next (s.deviceSample b bytes)
  | .powerCycle => .next s.powerCycled

/-- What happens in one step: the first move written out, unless it has to wait; else a free step (R156). -/
def turn (s : State) : Host.Outcome State Fault Refusal :=
  match s.moves with
  | [] => freeStep s
  | m :: ms => if s.mustWait m then freeStep s else doMove m { s with moves := ms }

/-- The step is over (log 4). -/
def tickOutcome (o : Host.Outcome State Fault Refusal) : Host.Outcome State Fault Refusal :=
  match o with
  | .next t => .next t.tick
  | .fault f => .fault f
  | .refused r => .refused r

/-- The state with word `w` at the port and nothing in its way: no operation in progress, no body running, and
the agent in turn is the next to move. -/
def State.withFetch (s : State) (w : Fetch) : State :=
  { s with
    port := some w
    fg := Fg.idle
    vecs := s.vecs.map (fun v => { v with ph := .idle })
    moves := .run :: s.moves }

end Sys2Proof.Machine
end

