-- ==== Sys2Proof/Machine/Step.lean ====
section
/-! DEFINITION. The step of the whole machine, and the state whose next step runs a given word. -/

namespace Sys2Proof.Machine

/-- One step (R9, R156). -/
def step (s : State) : Host.Outcome State Fault Refusal := tickOutcome (turn s)

/-- `s` with the word `w` of the opcode table where the next step fetches its instruction: at the port, taken
by the very next step (log 9, log 15). -/
def State.withFetchWord (s : State) (nbits w : Nat) : State := s.withFetch (fetchOfTableWord nbits w)

end Sys2Proof.Machine
end

