-- ==== Sys2Proof/Safety.lean ====
section
/-! DEFINITION. The invariants of the machine and the duties of its host, in the terms the claims use
(R17, R36, R54, R93, R117, R149, R168, R174). -/

namespace Sys2Proof.Machine

/-- The parameters meet R6, and there are `N` slots, `N` vectors and `N` latches (R11, R20, R23). -/
abbrev State.Sized (s : State) : Prop :=
  s.cfg.valid = true ∧ s.slots.length = s.cfg.nSlots ∧ s.vecs.length = s.cfg.nSlots ∧
    s.pending.length = s.cfg.nSlots

/-- The operation in progress is REGISTER of `pin`, `storage` at line `k` (R105). -/
def State.AtRegister (s : State) (pin : Pin) (b : Binding) (feed1 : Byte) (storage : StorageRef) (k : Nat) : Prop :=
  s.fg.op = some (.register pin b feed1 storage) ∧ s.fg.ph = .line k

/-- `attached` = 1 implies `claimed` = 1 (R17, R117 (1)), with what the sequencer has done so far for it: from
its attach on REGISTER has a claimed slot of the table, until its claim a free one, and UNREGISTER releases a detached
one. -/
def State.TableInv (s : State) : Prop :=
  s.Sized ∧
  (∀ i, (s.slot i).attached = true → (s.slot i).claimed = true) ∧
  (∀ pin b feed1 storage k, s.AtRegister pin b feed1 storage k → 3 ≤ k → s.fg.slot < s.cfg.nSlots) ∧
  (∀ pin b feed1 storage, s.AtRegister pin b feed1 storage 3 → (s.slot s.fg.slot).claimed = false) ∧
  (∀ pin b feed1 storage k, s.AtRegister pin b feed1 storage k → 4 ≤ k → (s.slot s.fg.slot).claimed = true) ∧
  (∀ i, s.fg.op = some (.unregister i) → s.fg.ph = .line 2 → (s.slot i).attached = false)

/-- A latch is set only for an attached slot (R143, R144, R110). -/
def State.PendingInv (s : State) : Prop :=
  s.Sized ∧ ∀ i, s.isPending i = true → (s.slot i).attached = true

/-- At most one body runs (R149). -/
def State.OneBody (s : State) : Prop :=
  ∀ i j, (s.vec i).ph ≠ .idle → (s.vec j).ph ≠ .idle → i = j

/-- A running body works on the binding and the storage its slot holds, with the storage's tag (R54, R117 (2),
R173). -/
def State.BodyBindingInv (s : State) : Prop :=
  ∀ i, (s.vec i).ph ≠ .idle →
    (s.vec i).rbind = ⟨(s.slot i).rapRead, (s.slot i).busAddress, (s.slot i).busSpeed⟩ ∧
    (s.vec i).wbind = ⟨(s.slot i).rapWrite, (s.slot i).busAddress, (s.slot i).busSpeed⟩ ∧
    (s.vec i).sref = (s.slot i).sampleRef ∧
    (s.vec i).mode = (s.sample (s.slot i).sampleRef).mode

/-- Only the member of a storage that its tag selects holds a value (R24 "never both", R25). -/
def State.OneMember (s : State) : Prop :=
  ∀ r, ((s.sample r).mode = .absolute → (s.sample r).rel = none) ∧
    ((s.sample r).mode = .relative → (s.sample r).abs = none)

/-- Both callbacks of a slot belong to one transport (R14). -/
def State.OneTransport (s : State) : Prop := ∀ i, (s.slot i).rapRead = (s.slot i).rapWrite

/-- No two attached slots have one pin, no two claimed slots one storage (R174); at line 4 REGISTER's pin is
still free. -/
def State.RegistrationsDistinct (s : State) : Prop :=
  (∀ i j, (s.slot i).attached = true → (s.slot j).attached = true → (s.slot i).pin = (s.slot j).pin → i = j) ∧
  (∀ i j, (s.slot i).claimed = true → (s.slot j).claimed = true →
    (s.slot i).sampleRef = (s.slot j).sampleRef → i = j) ∧
  (∀ pin b feed1 storage, s.AtRegister pin b feed1 storage 4 →
    ∀ i, (s.slot i).attached = true → (s.slot i).pin ≠ pin)

/-- Memory and the keyed storages are in their canonical form. -/
def State.CanonicalForm (s : State) : Prop :=
  Memory.wf s.mem = true ∧ Sparse.wfD Sensor.reset s.sensors = true ∧ Sparse.wfD Sample.reset s.samples = true

/-- The binding of an extended access (R95, R96). -/
def eraBinding (i : Instr) : Option Binding :=
  match i with
  | .eraRead b _ _ _ => some b
  | .eraWrite b _ _ _ => some b
  | _ => none

/-- The parameters are valid, no pseudo-operation is in progress (none has an encoding, R73), and from its
second frame on an extended access has its sensor's feed off (R93). -/
def State.FeedOffInv (s : State) : Prop :=
  s.cfg.valid = true ∧
  (∀ b, s.fg.op ≠ some (.eraPoll b)) ∧
  (∀ i b, s.fg.op = some i → eraBinding i = some b → s.fg.ph ≠ .idle → s.fg.ph ≠ .feedOff →
    (s.sensor b).feed = false)

/-- IDLE exactly between operations (R19). -/
def State.SequencerInv (s : State) : Prop := s.fg.op = none ↔ s.fg.ph = .idle

/-- No body has met a bus failure: the premise R36 asks of a claim about samples. -/
def State.NoVecFault (s : State) : Prop := ∀ i, (s.vec i).fault = false

/-- The host keeps the duty of R168: interrupts are off, or the foreground's next step is no frame on a bus that
an attached slot also uses (R87, R178). -/
def State.BusDutyKept (s : State) : Prop :=
  s.ie = false ∨ ∀ b i, s.nextFrame = some b → (s.slot i).attached = true →
    sameBus b (s.slot i).binding = false

/-- The end of a run (R156, R179): the host presents no further operation and its last one has returned, no body runs,
and no latch is set while interrupts are on. What else the outside world still does is not asked. -/
abbrev State.RunEnded (s : State) : Prop :=
  s.moves.all (fun m => !m.presents) = true ∧ s.port = none ∧ s.fg.op = none ∧ s.running = none ∧
    (s.ie = true → s.pending.all (fun p => !p) = true)

/-- No move is written out, no body runs and nothing may be dispatched: the foreground is the next to go
(R156). -/
abbrev State.ForegroundNext (s : State) : Prop :=
  s.moves = [] ∧ s.running = none ∧ s.candidates = []

end Sys2Proof.Machine
end

