-- ==== Sys2Proof/Certificates/Slice0/Obligations.lean ====
section
/-! DEFINITION. The statements for the provers, from the numbered rules of spec/. A statement about a step of an
operation is about `exec`; one about the whole machine is about `step`. -/

namespace Sys2Proof.Claims

open Sys2Proof.Machine

/-- Valid parameters, operands within the spec's bounds, and no feed byte that R178 refuses: what is refused is said
in `OutOfBoundsReadsAreRefused`, `ReservedEncodingsAreRefused` and `TagAndModeAreFixed`. -/
abbrev Runnable (s : State) (i : Instr) : Prop :=
  s.cfg.valid = true ∧ i.wf s.cfg = true ∧ s.modeRefusal i = none

/-- Instruction `i` may start: runnable, with no operation in progress. -/
abbrev Idle (s : State) (i : Instr) : Prop := Runnable s i ∧ s.fg.op = none

/-- Instruction `i` is in progress and stands in phase `p`. -/
abbrev StandsAt (s : State) (i : Instr) (p : Phase) : Prop := Runnable s i ∧ s.fg.op = some i ∧ s.fg.ph = p

/-- Instruction `i` may start or is in progress in any phase. -/
abbrev MayRun (s : State) (i : Instr) : Prop := Runnable s i ∧ (s.fg.op = none ∨ s.fg.op = some i)

/-- Parameters, free values and the outside world's coming moves. -/
def OutsideSame (s t : State) : Prop :=
  t.cfg = s.cfg ∧ t.moves = s.moves ∧ t.answers = s.answers ∧ t.clock = s.clock ∧ t.loaded = s.loaded ∧
    t.port = s.port ∧ t.patience = s.patience

/-- The slot table, the vectors, the latches, the interrupt enable, the sample storages and the decoder's result:
what no basic or extended register access touches (R18). -/
def TableSame (s t : State) : Prop :=
  t.slots = s.slots ∧ t.vecs = s.vecs ∧ t.pending = s.pending ∧ t.ie = s.ie ∧ t.samples = s.samples ∧
    t.fnResult = s.fnResult

/-- Every sensor but the one of `b`. -/
def OtherSensorsSame (s t : State) (b : Binding) : Prop :=
  ∀ b', sensorKey b' ≠ sensorKey b → t.sensor b' = s.sensor b'

/-- Every byte of every window and ERA space, and every sensor, and the record of frames. -/
def BusSame (s t : State) : Prop := t.mem = s.mem ∧ t.sensors = s.sensors ∧ t.trace = s.trace

/-- One write frame of `v` to register `reg` was done: it is recorded, the register holds the byte, every other
byte is as before, and the sensor's feed, line and busy condition changed only as R48 says. A write to an address
register leaves as the target address the two address bytes, high byte first (R30, R43); no other write moves it. That
one of the two written alone loads the target already, and that a register holds its byte whatever its legality (U3), is
the model's choice (log 8). -/
def WriteFrame (s t : State) (b : Binding) (reg : Reg) (v : Byte) : Prop :=
  t.trace = .write b reg v :: s.trace ∧
  t.window b reg = some v ∧
  (∀ a, a ≠ windowAddr b reg → t.byteAt a = s.byteAt a) ∧
  (t.sensor b).feed = (if reg = s.cfg.regFeed1 then feedEnabled s.cfg v else (s.sensor b).feed) ∧
  (t.sensor b).line = (if reg = s.cfg.regStatus ∧ v = s.cfg.statusClear then false else (s.sensor b).line) ∧
  (t.sensor b).pend = (if reg = s.cfg.regEraCtrl ∧ v ≠ 0 then v else (s.sensor b).pend) ∧
  (reg ≠ s.cfg.regEraAddrHi → reg ≠ s.cfg.regEraAddrLo → (t.sensor b).target = (s.sensor b).target) ∧
  (reg = s.cfg.regEraAddrHi ∨ reg = s.cfg.regEraAddrLo → ∀ hi lo, t.window b s.cfg.regEraAddrHi = some hi →
    t.window b s.cfg.regEraAddrLo = some lo → (t.sensor b).target.toNat = 256 * hi.toNat + lo.toNat) ∧
  OtherSensorsSame s t b

/-- One read frame of register `reg` that is not the control register was done and gave `bytes`: it is recorded,
and no byte and no sensor's feed, line, busy condition or target changed (R48). -/
def ReadFrame (s t : State) (b : Binding) (reg : Reg) (bytes : List Byte) : Prop :=
  t.trace = .read b reg bytes.length bytes :: s.trace ∧
  (∀ a, t.byteAt a = s.byteAt a) ∧
  (t.sensor b).feed = (s.sensor b).feed ∧ (t.sensor b).line = (s.sensor b).line ∧
  (t.sensor b).pend = (s.sensor b).pend ∧ (t.sensor b).target = (s.sensor b).target ∧
  OtherSensorsSame s t b

/-- The operation has returned with `r` and the sequencer is IDLE. -/
def Returned (t : State) (r : Result) : Prop := t.result = some r ∧ t.fg = Fg.idle

/-- The operation `i` goes on in phase `p`; there is no new answer. -/
def GoesOn (s t : State) (i : Instr) (p : Phase) : Prop :=
  t.fg.op = some i ∧ t.fg.ph = p ∧ t.result = s.result

/-- `n` steps of instruction `i`, each with the free values of its own. -/
def execRun (i : Instr) : Nat → State → Option State
  | 0, s => some s
  | n + 1, s =>
    match exec i s with
    | .next t => execRun i n t.tick
    | .fault _ => none
    | .refused _ => none

/-- The next `n` steps have their free values written out and none of their frames fails. -/
abbrev NoFailure (n : Nat) (s : State) : Prop := n ≤ s.answers.length ∧ ∀ a ∈ s.answers.take n, a.fail = false

/-- Slot `i` differs at most in `raw` and `ready`, every other slot not at all. -/
def OnlyRawReady (s t : State) (i : Nat) : Prop :=
  (∀ j, j ≠ i → t.slot j = s.slot j) ∧
  t.slot i = { s.slot i with raw := (t.slot i).raw, ready := (t.slot i).ready }

/-- The six bytes of the raw buffer in order (R15). -/
def rawBytes (r : Raw) : List Byte := [r.b0, r.b1, r.b2, r.b3, r.b4, r.b5]

/-- The packet of mode `m`, six bytes in absolute mode and four in relative mode (R130), is the front of the raw
buffer, and the rest of the buffer is as it was (R15, R122). -/
def PacketFilled (m : Mode) (old new : Raw) (bytes : List Byte) : Prop :=
  bytes.length = (match m with | .absolute => 6 | .relative => 4) ∧
  rawBytes new = bytes ++ (rawBytes old).drop bytes.length

/-- The absolute sample in plain arithmetic (R124). -/
def AbsDecoded (b0 b2 b3 b4 b5 : Byte) (a : AbsSample) : Prop :=
  a.x.toNat = b2.toNat + 256 * (b4.toNat % 16) ∧ a.y.toNat = b3.toNat + 256 * (b4.toNat / 16) ∧
  a.z.toNat = b5.toNat % 64 ∧ a.buttons.toNat = b0.toNat % 64 ∧ (a.touching = true ↔ a.x.toNat ≠ 0)

/-- A byte read as two's complement (R7). -/
def signed (b : Byte) : Int := if b.toNat < 128 then (b.toNat : Int) else b.toNat - 256

/-- The relative sample in plain arithmetic (R125). -/
def RelDecoded (b0 b1 b2 b3 : Byte) (r : RelSample) : Prop :=
  r.buttons.toNat = b0.toNat % 8 ∧ r.dx = signed b1 ∧ r.dy = signed b2 ∧ r.scroll = signed b3

/-- Storage `y` is storage `x` with the member that mode `m` selects decoded from the raw buffer; the other member,
the tag, the timestamp and the model's own bits are as in `x` (R122, R124, R125, R126). -/
def SampleDecoded (m : Mode) (raw : Raw) (x y : Sample) : Prop :=
  (m = .absolute → ∃ a, y = { x with abs := some a } ∧ AbsDecoded raw.b0 raw.b2 raw.b3 raw.b4 raw.b5 a) ∧
  (m = .relative → ∃ r, y = { x with rel := some r } ∧ RelDecoded raw.b0 raw.b1 raw.b2 raw.b3 r)

/-- Vector `i` goes on in phase `p` with the same working copy and fault latch. -/
def VecGoesOn (s t : State) (i : Nat) (p : VecPhase) : Prop := t.vec i = { s.vec i with ph := p }

end Sys2Proof.Claims

open Sys2Proof Sys2Proof.Machine Sys2Proof.Claims

/-! Encoding. -/

/-- Decoding the encoding of a well-formed instruction gives it back, at every operand value and for every valid
choice of the parameters (R62, R65, R66, R68). -/
def Obligations.DecodeEncodeRoundTrip : Prop :=
  ∀ (c : Config) (i : Instr) (w : Fetch), c.valid = true → i.wf c = true → encode c i = some w → decode c w = .ok i

/-- Words written out from R62, R66 and R68 decode to the instructions they stand for, at the standard parameters. The
markers and codes in them are R5's GK values, PRESUMED of the family (log 3; the spec's own choices D2 and D4), and the
port numbers are the spec's own choice D21. -/
def Obligations.SpecWordsDecode : Prop :=
  decode Config.standard (.port { op := 0x0, b := ⟨0, 0x2A, 0⟩, reg := 0x12, count := 6 }) =
    .ok (.rapRead ⟨0, 0x2A, 0⟩ 0x12 6) ∧
  decode Config.standard (.port { op := 0x2, b := ⟨0, 0x2A, 0⟩, feed1 := 0x03, addr := 0x0187, n := 1 }) =
    .ok (.eraRead ⟨0, 0x2A, 0⟩ 0x03 0x0187 1) ∧
  decode Config.standard (.port { op := 0x7, slot := 0 }) = .ok (.clearReady 0) ∧
  decode Config.standard (.busCommand ⟨0, 0x2A, 0⟩ 0b10110010) = .ok (.rapcmdRead ⟨0, 0x2A, 0⟩ 0x12) ∧
  decode Config.standard (.busCommand ⟨0, 0x2A, 0⟩ 0b10011101) = .ok (.rapcmdWrite ⟨0, 0x2A, 0⟩ 0x1D) ∧
  decode Config.standard (.eraCode ⟨0, 0x2A, 0⟩ 0b00000101) = .ok (.eraCtrlReadInc ⟨0, 0x2A, 0⟩) ∧
  decode Config.standard (.eraCode ⟨0, 0x2A, 0⟩ 0b00000010) = .ok (.eraCtrlWrite ⟨0, 0x2A, 0⟩)

/-- What encodes no operation: `op` values 0x8 to 0xF are refused; so is a `slot` not below `N`, which cannot be
expressed when `N` is a power of two; so is a `count` of 0 or above 32, or `reg + count > 32` (R69; the
spec's own choice D21). -/
def Obligations.ReservedEncodingsAreRefused : Prop :=
  ∀ s : State,
    (∀ f : PortFields, 8 ≤ f.op.toNat → decode s.cfg (.port f) = .ok (.cmdReserved (f.op.setWidth 3))) ∧
    (∀ low, exec (.cmdReserved low) s = .refused .reservedOp) ∧
    (∀ i, s.cfg.nSlots ≤ i → exec (.unregister i) s = .refused .slotOutOfRange ∧
      exec (.consumeReady i) s = .refused .slotOutOfRange ∧ exec (.clearReady i) s = .refused .slotOutOfRange) ∧
    (∀ (f : PortFields) (k : Nat), s.cfg.nSlots = 2 ^ k → f.slot % 2 ^ slotBits s.cfg.nSlots < s.cfg.nSlots) ∧
    (∀ (b : Binding) (reg : Reg) (count : BitVec 6),
      count.toNat = 0 ∨ 32 < count.toNat ∨ 32 < reg.toNat + count.toNat →
      exec (.rapRead b reg count) s = .refused .readOutsideWindow)

/-- A command byte whose bits 7:5 are neither marker is no instruction, and with the markers it is one of the two
frames at the address in its low five bits (R62, R70). -/
def Obligations.CommandByteDecodesByMarker : Prop :=
  ∀ (c : Config) (b : Binding) (cmd : Byte), c.valid = true →
    (cmd &&& 0xE0 = c.readMarker → decode c (.busCommand b cmd) = .ok (.rapcmdRead b (cmd.setWidth 5))) ∧
    (cmd &&& 0xE0 = c.writeMarker → decode c (.busCommand b cmd) = .ok (.rapcmdWrite b (cmd.setWidth 5))) ∧
    (cmd &&& 0xE0 ≠ c.readMarker → cmd &&& 0xE0 ≠ c.writeMarker → decode c (.busCommand b cmd) = .error .noMarker)

/-! The step. -/

/-- A step runs the decoded instruction: with the foreground next to move and no operation in progress, the
port's word leaves the port and the step is `exec` of its instruction; an operation in progress and a running
body go on with `exec` of theirs (R9, R19, R147, R149). That the word leaves the port in the step that is its
operation's first is the model's choice (log 23), and so is that the step's free values are then used up (log 4). -/
def Obligations.StepRunsTheDecodedInstruction : Prop :=
  (∀ (s : State) (w : Fetch) (i : Instr), s.ForegroundNext → s.fg.op = none → s.port = some w →
    decode s.cfg w = .ok i → step s = tickOutcome (exec i s.takePort)) ∧
  (∀ (s : State) (i : Instr), s.ForegroundNext → s.fg.op = some i → step s = tickOutcome (exec i s)) ∧
  (∀ (s : State) (k : Nat), s.moves = [] → s.running = some k → step s = tickOutcome (exec (.irqBody k) s))

/-- A pending vector is dispatched when the platform moves so, whichever it is, with interrupts on and no body
running. Inside a frame of the foreground's next step on the vector's own bus the result is undefined, a fault
(R145, R147, R168; what shares a bus is the spec's own reading D23); that a dispatch inside a frame on another bus, or
with no frame in that step, is the dispatch before that step is the model's reading of R87 (log 25). With no move written
out, a step while some vector may be dispatched dispatches one that may be, or leaves none that may be, or leaves strictly
fewer steps to wait: no dispatch is put off for ever (weak fairness, R147; the finite wait is the model's form of it,
log 37). -/
def Obligations.DispatchBetweenAndInsideFrames : Prop :=
  (∀ (s : State) (i : Nat) (ms : List Move), s.Sized → i < s.cfg.nSlots → (∀ j, (s.vec j).ph = .idle) →
    s.isPending i = true → s.ie = true →
    (s.moves = .dispatch i :: ms → step s = .next ({ s with moves := ms }.dispatchVector i).tick) ∧
    (s.moves = .dispatchInFrame i :: ms →
      (∀ b, s.nextFrame = some b → sameBus b (s.slot i).binding = true → step s = .fault .sharedBusFrame) ∧
      ((∀ b, s.nextFrame = some b → sameBus b (s.slot i).binding = false) →
        step s = .next ({ s with moves := ms }.dispatchVector i).tick))) ∧
  (∀ s t : State, s.Sized → s.moves = [] → s.candidates ≠ [] → step s = .next t →
    (∃ i, s.canDispatch i = true ∧ t = (s.dispatchVector i).tick) ∨ t.candidates = [] ∨
    ∃ q, t.patience = some q ∧ ∀ p, s.patience = some p → q < p)

/-- A host that keeps interrupts off around every foreground frame on a bus that an attached slot also uses never
meets the undefined case of R168. -/
def Obligations.BusDutyPreventsOverlap : Prop :=
  ∀ s : State, s.PendingInv → s.BusDutyKept → step s ≠ .fault .sharedBusFrame

/-! Reset. -/

/-- After reset every slot is unclaimed, unattached and not ready, the sequencers are IDLE, no latch and no fault
is set, and nothing has been presented (R35, R161; `ready` = 0 is the spec's own choice D22). -/
def Obligations.ResetValues : Prop :=
  (∀ i, (State.reset.slot i).claimed = false ∧ (State.reset.slot i).attached = false ∧
    (State.reset.slot i).ready = false ∧ (State.reset.vec i).ph = .idle ∧ (State.reset.vec i).fault = false ∧
    State.reset.isPending i = false) ∧
  State.reset.fg.op = none ∧ State.reset.fg.ph = .idle ∧ State.reset.port = none

/-- The reset state meets every invariant stated below. What R35 leaves unspecified is the model's choice: that
`rap_read` and `rap_write` start alike, which `OneTransport` needs (log 6), the sensors with their feeds off, which
`FeedOffInv` does not use while no operation is in progress, the canonical form (log 8), and that a storage holds no
member, which R25 and R35 leave to its owner (log 7). -/
def Obligations.ResetMeetsTheInvariants : Prop :=
  State.reset.TableInv ∧ State.reset.PendingInv ∧ State.reset.OneBody ∧ State.reset.BodyBindingInv ∧
    State.reset.OneTransport ∧ State.reset.RegistrationsDistinct ∧ State.reset.CanonicalForm ∧
    State.reset.FeedOffInv ∧ State.reset.SequencerInv ∧ State.reset.OneMember

/-! Basic register access. -/

/-- RAP_READ answers with exactly `count` bytes, those of its one frame; a freely answering device's are the
environment's. Nothing in the block but the sequencer and the answer changes, no other sensor and not the sensor's feed
or line (R80, R83). No byte, no target address and no access in progress changes unless the read passes the control
register while an access is in progress (R48); it may then be seen complete (log 10), which changes at most the value,
status and control registers and the byte at the target. -/
def Obligations.RapReadReturnsItsFrame : Prop :=
  ∀ (s : State) (b : Binding) (reg : Reg) (count : BitVec 6), Idle s (.rapRead b reg count) →
    s.answer.fail = false →
    ∃ t bytes, exec (.rapRead b reg count) s = .next t ∧ bytes.length = count.toNat ∧
      Returned t { st := .ok, rbytes := some bytes } ∧
      t.trace = .read b reg count.toNat bytes :: s.trace ∧
      (deviceModel s.cfg b = .oracle → bytes = s.freeBytes count.toNat) ∧
      ((s.sensor b).pend = 0 ∨ (∀ k, k < count.toNat → reg + BitVec.ofNat 5 k ≠ s.cfg.regEraCtrl) →
        (∀ a, t.byteAt a = s.byteAt a) ∧ (t.sensor b).pend = (s.sensor b).pend ∧
        (t.sensor b).target = (s.sensor b).target) ∧
      (∀ a, a ≠ windowAddr b s.cfg.regEraValue → a ≠ windowAddr b s.cfg.regStatus →
        a ≠ windowAddr b s.cfg.regEraCtrl → a ≠ eraAddr b (s.sensor b).target → t.byteAt a = s.byteAt a) ∧
      (t.sensor b).feed = (s.sensor b).feed ∧ (t.sensor b).line = (s.sensor b).line ∧
      TableSame s t ∧ OutsideSame s t ∧ OtherSensorsSame s t b

/-- Byte `k` of a read is the content of window register `reg + k`, in ascending order, where the device is plain
storage; the read changes no byte (R42, R26). -/
def Obligations.ReadBytesAscend : Prop :=
  ∀ (s : State) (b : Binding) (reg : Reg) (count : BitVec 6), Idle s (.rapRead b reg count) →
    s.answer.fail = false → deviceModel s.cfg b = .plainStorage →
    ∃ t bytes, exec (.rapRead b reg count) s = .next t ∧ Returned t { st := .ok, rbytes := some bytes } ∧
      (∀ (k : Nat) (v : Byte), k < count.toNat → s.window b (reg + BitVec.ofNat 5 k) = some v → bytes[k]? = some v) ∧
      ∀ a, t.byteAt a = s.byteAt a

/-- A RAP_READ of no byte, of more than `RAP_MAX_COUNT`, or past register 0x1F is refused, and so is an ERA_READ
whose addresses would pass 0xFFFF or of more than `ERA_MAX_N` bytes (R45, R69, R176; the spec's own choices D9 and
D26). -/
def Obligations.OutOfBoundsReadsAreRefused : Prop :=
  (∀ (s : State) (b : Binding) (reg : Reg) (count : BitVec 6),
    (count.toNat = 0 ∨ s.cfg.rapMaxCount < count.toNat ∨ 32 < reg.toNat + count.toNat) ↔
      exec (.rapRead b reg count) s = .refused .readOutsideWindow) ∧
  (∀ (s : State) (b : Binding) (f : Byte) (addr : EraAddr) (n : Byte),
    (s.cfg.eraMaxN < n.toNat ∨ 0x10000 < addr.toNat + n.toNat) ↔
      exec (.eraRead b f addr n) s = .refused .eraRunPastTop)

/-- RAP_WRITE sends one write frame of its byte and returns OK; nothing else in the block or on the bus changes
(R81, R84, R48). The model's choices: that the register holds the byte whatever its legality (U3), and that a write to one
of the two ERA address registers alone already loads the target (log 8), that a control code written while an access is
in progress replaces it and a zero does not end it (log 32, log 40). -/
def Obligations.RapWriteSendsItsByte : Prop :=
  ∀ (s : State) (b : Binding) (reg : Reg) (v : Byte), Idle s (.rapWrite b reg v) → s.answer.fail = false →
    ∃ t, exec (.rapWrite b reg v) s = .next t ∧ Returned t { st := .ok } ∧ WriteFrame s t b reg v ∧
      TableSame s t ∧ OutsideSame s t

/-- A failed frame is reported as `BusTransactionFailed`, not retried: one failed frame is recorded, no bytes are
returned, and of a write the register holds the byte or what it held (R80, R81, R85, U4). That a failed read changes no
byte, and so completes no access, is the model's choice (log 20). -/
def Obligations.FailedFrameIsReported : Prop :=
  (∀ (s : State) (b : Binding) (reg : Reg) (count : BitVec 6), Idle s (.rapRead b reg count) →
    s.answer.fail = true →
    ∃ t, exec (.rapRead b reg count) s = .next t ∧ Returned t { st := .busTransactionFailed } ∧
      t.trace = .readFailed b reg count.toNat :: s.trace ∧ (∀ a, t.byteAt a = s.byteAt a) ∧
      TableSame s t ∧ OutsideSame s t ∧ OtherSensorsSame s t b) ∧
  (∀ (s : State) (b : Binding) (reg : Reg) (v : Byte), Idle s (.rapWrite b reg v) → s.answer.fail = true →
    ∃ t, exec (.rapWrite b reg v) s = .next t ∧ Returned t { st := .busTransactionFailed } ∧
      t.trace = .writeFailed b reg v :: s.trace ∧
      (t.window b reg = some v ∨ t.window b reg = s.window b reg) ∧
      (∀ a, a ≠ windowAddr b reg → t.byteAt a = s.byteAt a) ∧
      TableSame s t ∧ OutsideSame s t ∧ OtherSensorsSame s t b)

/-- On plain storage, a RAP_WRITE followed by a RAP_READ of the same address, with no intervening frame, returns
the written byte, for every address (R88). A feed byte that R178 refuses is not written. -/
def Obligations.PlainStorageRoundTrip : Prop :=
  ∀ (s : State) (b : Binding) (reg : Reg) (v : Byte), Idle s (.rapWrite b reg v) →
    Idle s (.rapRead b reg 1) → deviceModel s.cfg b = .plainStorage → s.answer.fail = false →
    s.tick.answer.fail = false →
    ∃ t u, exec (.rapWrite b reg v) s = .next t ∧ exec (.rapRead b reg 1) t.tick = .next u ∧
      Returned u { st := .ok, rbytes := some [v] }

/-! The bus-level codes. -/

/-- A command byte sets the sensor's pointer to its register and says whether bytes are read or written; nothing
else changes. R62 and R33 give the command byte and the read pointer; that the two codes run as instructions, and the
direction the sensor then keeps, are the model's choice (log 14). -/
def Obligations.CommandBytesSelectTheRegister : Prop :=
  ∀ (s : State) (b : Binding) (a : Reg), s.cfg.valid = true → s.cfg.reaches b = true →
    exec (.rapcmdRead b a) s = .next (s.setSensor b { s.sensor b with ptr := a, dir := .reading }) ∧
    exec (.rapcmdWrite b a) s = .next (s.setSensor b { s.sensor b with ptr := a, dir := .writing })

/-- A control code written to the control register makes the access it names the one in progress; the control
register holds the code and nothing else changes (R30, R48, R68). That the codes run as instructions is log 14, that an
access starts also while another one is in progress or the feed is on is log 32 and log 34: the model's choices. -/
def Obligations.ControlCodesStartAnAccess : Prop :=
  ∀ (s : State) (b : Binding), s.cfg.valid = true → s.cfg.reaches b = true →
    (∃ t, exec (.eraCtrlReadInc b) s = .next t ∧ t.sensor b = { s.sensor b with pend := s.cfg.eraCtrlReadInc } ∧
      t.window b s.cfg.regEraCtrl = some s.cfg.eraCtrlReadInc ∧
      (∀ a, a ≠ windowAddr b s.cfg.regEraCtrl → t.byteAt a = s.byteAt a) ∧
      TableSame s t ∧ OutsideSame s t ∧ OtherSensorsSame s t b ∧ t.fg = s.fg ∧ t.trace = s.trace ∧
      t.result = s.result) ∧
    (∃ t, exec (.eraCtrlWrite b) s = .next t ∧ t.sensor b = { s.sensor b with pend := s.cfg.eraCtrlWrite } ∧
      t.window b s.cfg.regEraCtrl = some s.cfg.eraCtrlWrite ∧
      (∀ a, a ≠ windowAddr b s.cfg.regEraCtrl → t.byteAt a = s.byteAt a) ∧
      TableSame s t ∧ OutsideSame s t ∧ OtherSensorsSame s t b ∧ t.fg = s.fg ∧ t.trace = s.trace ∧
      t.result = s.result)

/-- When an access completes the control register reads zero and none is in progress; a completed read leaves the
byte at the target in the value register and advances the target by one; a completed write leaves the value
register's byte at the target. No byte changes but the value and status registers, the control register
and, of a write, the target (R30, R33, R48, R97). The model's choices: that the target and the value register are those of
the moment of completion (log 39), that ERA_CTRL_DONE is where an access completes
(log 14), that what a write does besides to the value register and the target is free (U22, log 10) but for the
simulated sensor, which keeps both (spec/95_test_vectors.md part 2), that a code that is neither of the two transfers
nothing (log 31), that the target passes from 0xFFFF to 0 (log 30), and that plain storage performs no access
(log 10). -/
def Obligations.CompletedAccessTakesEffect : Prop :=
  ∀ (s : State) (b : Binding), s.cfg.valid = true → s.cfg.reaches b = true →
    (deviceModel s.cfg b = .plainStorage → exec (.eraCtrlDone b) s = .next s) ∧
    (deviceModel s.cfg b ≠ .plainStorage →
    ∃ t, exec (.eraCtrlDone b) s = .next t ∧ t.window b s.cfg.regEraCtrl = some 0 ∧ (t.sensor b).pend = 0 ∧
      ((s.sensor b).pend ≠ s.cfg.eraCtrlReadInc → (s.sensor b).pend ≠ s.cfg.eraCtrlWrite →
        t.window b s.cfg.regEraValue = s.window b s.cfg.regEraValue ∧
        (t.sensor b).target = (s.sensor b).target ∧ ∀ a, t.eraByte b a = s.eraByte b a) ∧
      ((s.sensor b).pend = s.cfg.eraCtrlReadInc →
        t.window b s.cfg.regEraValue = s.eraByte b (s.sensor b).target ∧
        (t.sensor b).target = (s.sensor b).target + 1 ∧ ∀ a, t.eraByte b a = s.eraByte b a) ∧
      ((s.sensor b).pend = s.cfg.eraCtrlWrite →
        t.eraByte b (s.sensor b).target = s.window b s.cfg.regEraValue ∧
        (∀ a, a ≠ (s.sensor b).target → t.eraByte b a = s.eraByte b a) ∧
        ((t.sensor b).target = (s.sensor b).target ∨ (t.sensor b).target = (s.sensor b).target + 1) ∧
        (deviceModel s.cfg b = .refSim →
          t.window b s.cfg.regEraValue = s.window b s.cfg.regEraValue ∧
          (t.sensor b).target = (s.sensor b).target)) ∧
      (∀ a, a ≠ windowAddr b s.cfg.regEraValue → a ≠ windowAddr b s.cfg.regStatus →
        a ≠ windowAddr b s.cfg.regEraCtrl → a ≠ eraAddr b (s.sensor b).target → t.byteAt a = s.byteAt a) ∧
      (t.sensor b).feed = (s.sensor b).feed ∧ (t.sensor b).line = (s.sensor b).line ∧
      TableSame s t ∧ OutsideSame s t ∧ OtherSensorsSame s t b ∧ t.fg = s.fg ∧ t.trace = s.trace ∧
      t.result = s.result)

/-! The pseudo-operations. -/

/-- FEED_DISABLE, FEED_ENABLE and CLEAR_FLAGS do exactly what the RAP_WRITE they expand to does (R73, R90, R91,
R92). -/
def Obligations.PseudoOpsAreTheirExpansions : Prop :=
  ∀ (s : State) (b : Binding) (f : Byte), s.cfg.valid = true → s.fg.op = none →
    exec (.feedDisable b f) s = exec (.rapWrite b s.cfg.regFeed1 (f &&& ~~~s.cfg.feed1EnMask)) s ∧
    exec (.feedEnable b f) s = exec (.rapWrite b s.cfg.regFeed1 (f ||| s.cfg.feed1EnMask)) s ∧
    exec (.clearFlags b) s = exec (.rapWrite b s.cfg.regStatus s.cfg.statusClear) s

/-- FEED_DISABLE leaves the sensor's feed off, FEED_ENABLE leaves it on, CLEAR_FLAGS leaves the data-ready line
low, each by one write frame (R90, R91, R92; the one write of the feed byte is the spec's own choice D5; that the
registers then hold the bytes is log 8). A feed byte that R178 refuses is not sent: `TagAndModeAreFixed`. -/
def Obligations.FeedAndFlagFramesTakeEffect : Prop :=
  ∀ (s : State) (b : Binding) (f : Byte), s.cfg.valid = true → s.cfg.reaches b = true → s.fg.op = none →
    s.modeConflict b f = false → s.answer.fail = false →
    (∃ t, exec (.feedDisable b f) s = .next t ∧ Returned t { st := .ok } ∧
      WriteFrame s t b s.cfg.regFeed1 (f &&& ~~~s.cfg.feed1EnMask) ∧ (t.sensor b).feed = false ∧
      TableSame s t ∧ OutsideSame s t) ∧
    (∃ t, exec (.feedEnable b f) s = .next t ∧ Returned t { st := .ok } ∧
      WriteFrame s t b s.cfg.regFeed1 (f ||| s.cfg.feed1EnMask) ∧ (t.sensor b).feed = true ∧
      TableSame s t ∧ OutsideSame s t) ∧
    (∃ t, exec (.clearFlags b) s = .next t ∧ Returned t { st := .ok } ∧
      WriteFrame s t b s.cfg.regStatus s.cfg.statusClear ∧ (t.sensor b).line = false ∧
      TableSame s t ∧ OutsideSame s t)

/-- ERA_POLL, at its start and in POLL, sends one read frame of the control register: zero returns OK, a non-zero
byte that is the cap's last poll returns `UnresponsiveDevice`, any other goes on polling (R94; the cap and the shape of
the loop are the spec's own choices D7 and D8). -/
def Obligations.EraPollReadsThenTests : Prop :=
  ∀ (s : State) (b : Binding), (Idle s (.eraPoll b) ∨ StandsAt s (.eraPoll b) .poll) →
    (s.sensor b).feed = false → s.answer.fail = false →
    ∃ t c, exec (.eraPoll b) s = .next t ∧ t.trace = .read b s.cfg.regEraCtrl 1 [c] :: s.trace ∧
      (c = 0 → Returned t { st := .ok }) ∧
      (c ≠ 0 → s.cfg.eraPollCap = some ((if s.fg.op = none then 0 else s.fg.polls) + 1) →
        Returned t { st := .unresponsiveDevice }) ∧
      (c ≠ 0 → s.cfg.eraPollCap ≠ some ((if s.fg.op = none then 0 else s.fg.polls) + 1) →
        GoesOn s t (.eraPoll b) .poll ∧ t.fg.polls = (if s.fg.op = none then 0 else s.fg.polls) + 1) ∧
      TableSame s t ∧ OutsideSame s t ∧ OtherSensorsSame s t b

/-! Extended register access. -/

/-- A poll of a non-zero byte: with no cap the access stays in POLL and does not return, whatever it is; with a cap
it stays until the poll that reaches the cap, which returns `UnresponsiveDevice` (R99, R171; the cap is a parameter
by the spec's own choice D7). -/
def Obligations.BusyPollStaysOrTimesOut : Prop :=
  ∀ (s t : State) (i : Instr) (b : Binding), (eraBinding i = some b ∨ i = .eraPoll b) →
    StandsAt s i .poll → exec i s = .next t →
    (∃ c, c ≠ 0 ∧ t.trace = .read b s.cfg.regEraCtrl 1 [c] :: s.trace) →
    (s.cfg.eraPollCap = none → GoesOn s t i .poll) ∧
    ∀ cap, s.cfg.eraPollCap = some cap →
      (s.fg.polls + 1 ≠ cap → GoesOn s t i .poll ∧ t.fg.polls = s.fg.polls + 1) ∧
      (s.fg.polls + 1 = cap → Returned t { st := .unresponsiveDevice })

/-- The frames of ERA_READ, phase by phase: what each writes or reads and where it goes on; the two address writes
leave the sensor's target at the address (R95, R100, R30, R33). That the write of ADDR_HI alone already loads the target,
and that a register holds its byte whatever its legality (U3), is the model's choice (log 8). -/
def Obligations.EraReadWalksItsPhases : Prop :=
  ∀ (s : State) (b : Binding) (f : Byte) (addr : EraAddr) (n : Byte), s.answer.fail = false →
    (Idle s (.eraRead b f addr n) →
      ∃ t, exec (.eraRead b f addr n) s = .next t ∧ GoesOn s t (.eraRead b f addr n) .addrHi ∧
        WriteFrame s t b s.cfg.regFeed1 (f &&& ~~~s.cfg.feed1EnMask) ∧ t.fg.k = 0 ∧ t.fg.bytes = []) ∧
    ((s.sensor b).feed = false →
      (StandsAt s (.eraRead b f addr n) .addrHi →
        ∃ t, exec (.eraRead b f addr n) s = .next t ∧ GoesOn s t (.eraRead b f addr n) .addrLo ∧
          WriteFrame s t b s.cfg.regEraAddrHi (addr.extractLsb' 8 8) ∧ t.fg.k = s.fg.k ∧ t.fg.bytes = s.fg.bytes) ∧
      (StandsAt s (.eraRead b f addr n) .addrLo →
        ∃ t, exec (.eraRead b f addr n) s = .next t ∧ WriteFrame s t b s.cfg.regEraAddrLo (addr.extractLsb' 0 8) ∧
          (s.window b s.cfg.regEraAddrHi = some (addr.extractLsb' 8 8) → (t.sensor b).target = addr) ∧
          (n = 0 → Returned t { st := .ok, rbytes := some [] }) ∧
          (n ≠ 0 → GoesOn s t (.eraRead b f addr n) .ctrl ∧ t.fg.k = s.fg.k ∧ t.fg.bytes = s.fg.bytes)) ∧
      (StandsAt s (.eraRead b f addr n) .ctrl →
        ∃ t, exec (.eraRead b f addr n) s = .next t ∧ GoesOn s t (.eraRead b f addr n) .poll ∧
          WriteFrame s t b s.cfg.regEraCtrl s.cfg.eraCtrlReadInc ∧ t.fg.k = s.fg.k ∧ t.fg.bytes = s.fg.bytes ∧
          t.fg.polls = 0) ∧
      (StandsAt s (.eraRead b f addr n) .poll →
        ∃ t c, exec (.eraRead b f addr n) s = .next t ∧ t.trace = .read b s.cfg.regEraCtrl 1 [c] :: s.trace ∧
          (c = 0 → GoesOn s t (.eraRead b f addr n) .value ∧ t.fg.k = s.fg.k ∧ t.fg.bytes = s.fg.bytes)) ∧
      (StandsAt s (.eraRead b f addr n) .value →
        ∃ t v, exec (.eraRead b f addr n) s = .next t ∧ GoesOn s t (.eraRead b f addr n) .clear ∧
          ReadFrame s t b s.cfg.regEraValue [v] ∧ t.fg.k = s.fg.k ∧ t.fg.bytes = s.fg.bytes ++ [v]) ∧
      (StandsAt s (.eraRead b f addr n) .clear →
        ∃ t, exec (.eraRead b f addr n) s = .next t ∧ WriteFrame s t b s.cfg.regStatus s.cfg.statusClear ∧
          (s.fg.k + 1 < n.toNat → GoesOn s t (.eraRead b f addr n) .ctrl ∧ t.fg.k = s.fg.k + 1 ∧
            t.fg.bytes = s.fg.bytes) ∧
          (n.toNat ≤ s.fg.k + 1 → Returned t { st := .ok, rbytes := some s.fg.bytes })))

/-- The frames of ERA_WRITE, phase by phase: the value first, then the address high and low byte, which leave the
sensor's target at the address, then the code (R96, R100, R43, R30, R33). That the write of ADDR_HI alone already loads
the target, and that a register holds its byte whatever its legality (U3), is the model's choice (log 8). -/
def Obligations.EraWriteWalksItsPhases : Prop :=
  ∀ (s : State) (b : Binding) (f : Byte) (addr : EraAddr) (v : Byte), s.answer.fail = false →
    (Idle s (.eraWrite b f addr v) →
      ∃ t, exec (.eraWrite b f addr v) s = .next t ∧ GoesOn s t (.eraWrite b f addr v) .valueW ∧
        WriteFrame s t b s.cfg.regFeed1 (f &&& ~~~s.cfg.feed1EnMask)) ∧
    ((s.sensor b).feed = false →
      (StandsAt s (.eraWrite b f addr v) .valueW →
        ∃ t, exec (.eraWrite b f addr v) s = .next t ∧ GoesOn s t (.eraWrite b f addr v) .addrHi ∧
          WriteFrame s t b s.cfg.regEraValue v) ∧
      (StandsAt s (.eraWrite b f addr v) .addrHi →
        ∃ t, exec (.eraWrite b f addr v) s = .next t ∧ GoesOn s t (.eraWrite b f addr v) .addrLo ∧
          WriteFrame s t b s.cfg.regEraAddrHi (addr.extractLsb' 8 8)) ∧
      (StandsAt s (.eraWrite b f addr v) .addrLo →
        ∃ t, exec (.eraWrite b f addr v) s = .next t ∧ GoesOn s t (.eraWrite b f addr v) .ctrl ∧
          WriteFrame s t b s.cfg.regEraAddrLo (addr.extractLsb' 0 8) ∧
          (s.window b s.cfg.regEraAddrHi = some (addr.extractLsb' 8 8) → (t.sensor b).target = addr)) ∧
      (StandsAt s (.eraWrite b f addr v) .ctrl →
        ∃ t, exec (.eraWrite b f addr v) s = .next t ∧ GoesOn s t (.eraWrite b f addr v) .poll ∧
          WriteFrame s t b s.cfg.regEraCtrl s.cfg.eraCtrlWrite ∧ t.fg.polls = 0) ∧
      (StandsAt s (.eraWrite b f addr v) .poll →
        ∃ t c, exec (.eraWrite b f addr v) s = .next t ∧ t.trace = .read b s.cfg.regEraCtrl 1 [c] :: s.trace ∧
          (c = 0 → GoesOn s t (.eraWrite b f addr v) .clear)) ∧
      (StandsAt s (.eraWrite b f addr v) .clear →
        ∃ t, exec (.eraWrite b f addr v) s = .next t ∧ WriteFrame s t b s.cfg.regStatus s.cfg.statusClear ∧
          Returned t { st := .ok }))

/-- The frame of the extended accesses: a step of ERA_READ, ERA_WRITE or ERA_POLL leaves the slot table, the
vectors, the latches, the interrupt enable and the storages alone, touches no sensor but its own, and stores at
most in the feed, value, address, control and status registers of that sensor and at its target address (R18, R95,
R96). -/
def Obligations.EraLeavesTheBlockAlone : Prop :=
  ∀ (s t : State) (i : Instr) (b : Binding), s.cfg.valid = true → (eraBinding i = some b ∨ i = .eraPoll b) →
    exec i s = .next t →
    TableSame s t ∧ OutsideSame s t ∧ OtherSensorsSame s t b ∧
    (∀ a, a ≠ windowAddr b s.cfg.regFeed1 → a ≠ windowAddr b s.cfg.regEraValue →
      a ≠ windowAddr b s.cfg.regEraAddrHi → a ≠ windowAddr b s.cfg.regEraAddrLo →
      a ≠ windowAddr b s.cfg.regEraCtrl → a ≠ windowAddr b s.cfg.regStatus →
      a ≠ eraAddr b (s.sensor b).target → t.byteAt a = s.byteAt a)

/-- A failed frame inside an extended access stops the operation: it returns `BusTransactionFailed` with no bytes
and sends no later frame (R98; the spec's own choice D15). -/
def Obligations.FailureStopsAnExtendedAccess : Prop :=
  ∀ (s t : State) (i : Instr) (b : Binding), MayRun s i → (eraBinding i = some b ∨ i = .eraPoll b) →
    s.answer.fail = true → exec i s = .next t →
    Returned t { st := .busTransactionFailed } ∧
    ∃ e, t.trace = e :: s.trace ∧
      ((∃ reg v, e = .writeFailed b reg v) ∨ ∃ reg, e = .readFailed b reg 1)

/-- A frame of ERA_READ, ERA_WRITE or ERA_POLL other than the FEED_DISABLE itself, issued while the sensor's feed
is enabled, is a fault (R165). -/
def Obligations.EraFrameWithFeedOnFaults : Prop :=
  ∀ (s : State) (b : Binding), (s.sensor b).feed = true →
    (∀ f addr n p, StandsAt s (.eraRead b f addr n) p → p ∈ [.addrHi, .addrLo, .ctrl, .poll, .value, .clear] →
      exec (.eraRead b f addr n) s = .fault .eraWhileFeedOn) ∧
    (∀ f addr v p, StandsAt s (.eraWrite b f addr v) p → p ∈ [.valueW, .addrHi, .addrLo, .ctrl, .poll, .clear] →
      exec (.eraWrite b f addr v) s = .fault .eraWhileFeedOn) ∧
    ((Idle s (.eraPoll b) ∨ StandsAt s (.eraPoll b) .poll) → exec (.eraPoll b) s = .fault .eraWhileFeedOn)

/-- ERA_READ of one byte completes: if no frame fails and the `p`-th poll is the first to read zero, the operation
returns after 6 + p frames with the byte the value register read, the frames are those of R95 in order, and the
feed is off (R95, R99, R101; the feed left off is the spec's own reading D6). -/
def Obligations.EraReadOfOneByteCompletes : Prop :=
  ∀ (s : State) (b : Binding) (f : Byte) (addr : EraAddr) (p : Nat) (v : Byte), Idle s (.eraRead b f addr 1) →
    deviceModel s.cfg b = .oracle → s.cfg.eraPollCap = none → 1 ≤ p → NoFailure (6 + p) s →
    (∀ j, j < p → ∃ c, (s.answers[3 + 1 + j]?).map (·.bytes) = some [c] ∧ (c = 0 ↔ j + 1 = p)) →
    (s.answers[4 + p]?).map (·.bytes) = some [v] →
    ∃ t polls, execRun (.eraRead b f addr 1) (6 + p) s = some t ∧
      Returned t { st := .ok, rbytes := some [v] } ∧
      polls.length = p ∧ (∀ e ∈ polls, ∃ c, e = .read b s.cfg.regEraCtrl 1 [c]) ∧
      t.trace = .write b s.cfg.regStatus s.cfg.statusClear :: .read b s.cfg.regEraValue 1 [v] :: (polls ++
        .write b s.cfg.regEraCtrl s.cfg.eraCtrlReadInc :: .write b s.cfg.regEraAddrLo (addrLow addr) ::
        .write b s.cfg.regEraAddrHi (addrHigh addr) :: .write b s.cfg.regFeed1 (feedOffByte s.cfg f) :: s.trace) ∧
      (t.sensor b).feed = false

/-- Against the reference simulated sensor, ERA_WRITE then ERA_READ of the same extended address returns the
written byte, at every address, and each poll loop performs exactly two reads, the first non-zero, the second zero
(R102; "exactly two reads" is the spec's own reading D8). -/
def Obligations.SimulatedEraRoundTrip : Prop :=
  ∀ (s : State) (b : Binding) (f : Byte) (addr : EraAddr) (v : Byte), Idle s (.eraWrite b f addr v) →
    Idle s (.eraRead b f addr 1) → deviceModel s.cfg b = .refSim → s.cfg.eraPollCap = none → NoFailure 16 s →
    ∃ t u, execRun (.eraWrite b f addr v) 8 s = some t ∧ Returned t { st := .ok } ∧
      t.trace = .write b s.cfg.regStatus s.cfg.statusClear :: .read b s.cfg.regEraCtrl 1 [0] ::
        .read b s.cfg.regEraCtrl 1 [s.cfg.eraCtrlWrite] :: .write b s.cfg.regEraCtrl s.cfg.eraCtrlWrite ::
        .write b s.cfg.regEraAddrLo (addrLow addr) :: .write b s.cfg.regEraAddrHi (addrHigh addr) ::
        .write b s.cfg.regEraValue v :: .write b s.cfg.regFeed1 (feedOffByte s.cfg f) :: s.trace ∧
      execRun (.eraRead b f addr 1) 8 t = some u ∧ Returned u { st := .ok, rbytes := some [v] } ∧
      u.trace = .write b s.cfg.regStatus s.cfg.statusClear :: .read b s.cfg.regEraValue 1 [v] ::
        .read b s.cfg.regEraCtrl 1 [0] :: .read b s.cfg.regEraCtrl 1 [s.cfg.eraCtrlReadInc] ::
        .write b s.cfg.regEraCtrl s.cfg.eraCtrlReadInc :: .write b s.cfg.regEraAddrLo (addrLow addr) ::
        .write b s.cfg.regEraAddrHi (addrHigh addr) :: .write b s.cfg.regFeed1 (feedOffByte s.cfg f) :: t.trace

/-- From its second frame on an extended access has its sensor's feed off: every step but a write of the feed byte by
an agent outside the block keeps `FeedOffInv`, and in a state that has it no step of the machine meets the undefined case
of R93. That nothing else reaches it is the model's: the host waits for its operation (R178; log 9, log 27) and ERA_POLL
is no word a host can present (log 14). R93's case remains reachable by the move `otherFeed` (log 38): after it has
turned the feed on, the next frame of the access is the fault. -/
def Obligations.StepKeepsFeedOff : Prop :=
  (∀ s : State, s.FeedOffInv → step s ≠ .fault .eraWhileFeedOn ∧
    ∀ t, step s = .next t → (∀ b v, s.moves.head? ≠ some (.otherFeed b v)) → t.FeedOffInv) ∧
  (∀ (s : State) (i : Instr) (b : Binding) (v : Byte) (p : Phase), s.moves = [.otherFeed b v] → s.running = none →
    s.candidates = [] → s.modeConflict b v = false → v &&& s.cfg.feed1EnMask ≠ 0 → StandsAt s i p →
    ((∃ f addr n, i = .eraRead b f addr n ∧ p ∈ [.addrHi, .addrLo, .ctrl, .poll, .value, .clear]) ∨
      (∃ f addr d, i = .eraWrite b f addr d ∧ p ∈ [.valueW, .addrHi, .addrLo, .ctrl, .poll, .clear])) →
    ∃ t, step s = .next t ∧ (t.sensor b).feed = true ∧ step t = .fault .eraWhileFeedOn)

/-! The slot table. -/

/-- A REGISTER that returns `NotAnInterruptPin` or `OutOfSlots` changes no slot, no latch, no routing and no
sensor, and puts no frame on any bus; the pin is checked first (R106, R113; that order is the spec's own choice D12).
From its first line, with a capable pin and every slot claimed, it returns `OutOfSlots` in two steps. -/
def Obligations.TableErrorsChangeNothing : Prop :=
  ∀ (s : State) (pin : Pin) (b : Binding) (f : Byte) (r : StorageRef),
    (Idle s (.register pin b f r) → irqCapable s.cfg pin = false →
      ∃ t, exec (.register pin b f r) s = .next t ∧ Returned t { st := .notAnInterruptPin } ∧
        TableSame s t ∧ OutsideSame s t ∧ BusSame s t) ∧
    (StandsAt s (.register pin b f r) (.line 2) → (∀ x ∈ s.slots, x.claimed = true) →
      ∃ t, exec (.register pin b f r) s = .next t ∧ Returned t { st := .outOfSlots } ∧
        TableSame s t ∧ OutsideSame s t ∧ BusSame s t) ∧
    (Idle s (.register pin b f r) → irqCapable s.cfg pin = true → (∀ x ∈ s.slots, x.claimed = true) →
      ∃ t, execRun (.register pin b f r) 2 s = some t ∧ Returned t { st := .outOfSlots } ∧
        TableSame s t ∧ BusSame s t)

/-- Line 2 of REGISTER takes the unclaimed slot of least index; line 3, for a host that has kept the duties of R163,
R174 and R178, claims it, binds every field and clears `ready` in one action that leaves `IE` as it was; no other slot
changes (R107; the least index is the spec's own choice D13; how the duties of R163 are seen is the model's, log 35). -/
def Obligations.RegisterClaimsTheLeastFreeSlot : Prop :=
  ∀ (s : State) (pin : Pin) (b : Binding) (f : Byte) (r : StorageRef),
    (∀ j, StandsAt s (.register pin b f r) (.line 2) → j < s.slots.length → (s.slot j).claimed = false →
      (∀ k, k < j → (s.slot k).claimed = true) →
      ∃ t, exec (.register pin b f r) s = .next t ∧ GoesOn s t (.register pin b f r) (.line 3) ∧ t.fg.slot = j ∧
        TableSame s t ∧ OutsideSame s t ∧ BusSame s t) ∧
    (StandsAt s (.register pin b f r) (.line 3) → s.fg.slot < s.slots.length →
      (∀ x ∈ s.slots, x.attached = true → x.pin ≠ pin) → (∀ x ∈ s.slots, x.claimed = true → x.sampleRef ≠ r) →
      (s.sample r).tagged = true → feedMode s.cfg f = (s.sample r).mode → s.modeConflict b f = false →
      (∀ w, s.window b s.cfg.regFeed1 = some w → feedOffByte s.cfg w = feedOffByte s.cfg f) →
      ∃ t, exec (.register pin b f r) s = .next t ∧ GoesOn s t (.register pin b f r) (.line 4) ∧
        t.slot s.fg.slot = { s.slot s.fg.slot with
          claimed := true, busAddress := b.busAddress, busSpeed := b.busSpeed, rapRead := b.tp, rapWrite := b.tp,
          sampleRef := r, ready := false } ∧
        (∀ j, j ≠ s.fg.slot → t.slot j = s.slot j) ∧ t.ie = s.ie ∧ t.pending = s.pending ∧ t.vecs = s.vecs ∧
        t.samples = s.samples ∧ t.fnResult = s.fnResult ∧ OutsideSame s t ∧ BusSame s t)

/-- Line 4 attaches the slot to the pin; lines 5, 6 and 7 send FEED_DISABLE, CLEAR_FLAGS and FEED_ENABLE on the
instance's binding, the enable last; line 8 returns the slot (R105, R108, R109; one write of the whole feed byte is the
spec's own choice D5; that a register holds its byte whatever its legality, U3, is log 8). -/
def Obligations.RegisterAttachesThenFeeds : Prop :=
  ∀ (s : State) (pin : Pin) (b : Binding) (f : Byte) (r : StorageRef),
    (StandsAt s (.register pin b f r) (.line 4) → s.fg.slot < s.slots.length →
      ∃ t, exec (.register pin b f r) s = .next t ∧ GoesOn s t (.register pin b f r) (.line 5) ∧
        t.slot s.fg.slot = { s.slot s.fg.slot with pin := pin, attached := true } ∧
        (∀ j, j ≠ s.fg.slot → t.slot j = s.slot j) ∧ t.pending = s.pending ∧ BusSame s t) ∧
    (s.answer.fail = false →
      (StandsAt s (.register pin b f r) (.line 5) →
        ∃ t, exec (.register pin b f r) s = .next t ∧ GoesOn s t (.register pin b f r) (.line 6) ∧
          WriteFrame s t b s.cfg.regFeed1 (f &&& ~~~s.cfg.feed1EnMask) ∧ TableSame s t) ∧
      (StandsAt s (.register pin b f r) (.line 6) →
        ∃ t, exec (.register pin b f r) s = .next t ∧ GoesOn s t (.register pin b f r) (.line 7) ∧
          WriteFrame s t b s.cfg.regStatus s.cfg.statusClear ∧ TableSame s t) ∧
      (StandsAt s (.register pin b f r) (.line 7) →
        ∃ t, exec (.register pin b f r) s = .next t ∧ GoesOn s t (.register pin b f r) (.line 8) ∧
          WriteFrame s t b s.cfg.regFeed1 (f ||| s.cfg.feed1EnMask) ∧ TableSame s t ∧
          (t.sensor b).feed = true)) ∧
    (StandsAt s (.register pin b f r) (.line 8) →
      ∃ t, exec (.register pin b f r) s = .next t ∧ Returned t { st := .ok, rslot := some s.fg.slot } ∧
        TableSame s t ∧ OutsideSame s t ∧ BusSame s t)

/-- A bus failure in lines 5 to 7 stops REGISTER and is returned; the slot stays claimed and attached (R109; the
spec's own choice D15). -/
def Obligations.RegisterFailureKeepsTheClaim : Prop :=
  ∀ (s : State) (pin : Pin) (b : Binding) (f : Byte) (r : StorageRef) (k : Nat),
    StandsAt s (.register pin b f r) (.line k) → 5 ≤ k → k ≤ 7 → s.answer.fail = true →
    ∃ t, exec (.register pin b f r) s = .next t ∧ Returned t { st := .busTransactionFailed } ∧ TableSame s t ∧
      ∃ reg v, t.trace = .writeFailed b reg v :: s.trace

/-- A REGISTER whose pin an attached slot has, or whose storage a claimed slot has, is refused (R174), and so is one
whose storage's tag its owner has not written, or is not the data mode of its feed byte, or whose feed byte would change
the data mode under an attached slot of that sensor, or is not, but for the feed enable, the one that sensor was last
given (R163, R178). That each is refused at the claim, in this order, what shows the sensor's data mode, and that the
feed enable is not compared, is the model's choice (log 16, log 35). -/
def Obligations.DuplicateRegistrationIsRefused : Prop :=
  ∀ (s : State) (pin : Pin) (b : Binding) (f : Byte) (r : StorageRef),
    StandsAt s (.register pin b f r) (.line 3) →
    ((∃ x ∈ s.slots, x.attached = true ∧ x.pin = pin) → exec (.register pin b f r) s = .refused .duplicatePin) ∧
    ((∀ x ∈ s.slots, x.attached = true → x.pin ≠ pin) →
      ((∃ x ∈ s.slots, x.claimed = true ∧ x.sampleRef = r) →
        exec (.register pin b f r) s = .refused .duplicateStorage) ∧
      ((∀ x ∈ s.slots, x.claimed = true → x.sampleRef ≠ r) →
        ((s.sample r).tagged = false → exec (.register pin b f r) s = .refused .tagNotWritten) ∧
        ((s.sample r).tagged = true → feedMode s.cfg f ≠ (s.sample r).mode ∨ s.modeConflict b f = true →
          exec (.register pin b f r) s = .refused .dataModeConflict) ∧
        ((s.sample r).tagged = true → feedMode s.cfg f = (s.sample r).mode → s.modeConflict b f = false →
          ∀ w, s.window b s.cfg.regFeed1 = some w → feedOffByte s.cfg w ≠ feedOffByte s.cfg f →
          exec (.register pin b f r) s = .refused .feedByteMismatch)))

/-- REGISTER completes in its eight lines: with a capable pin, a free slot, no duplicate, the tag written and equal to
the feed byte's data mode, the feed byte that of the sensor but for its enable (R163, R178; log 35), and no failed
frame it returns the least free slot, claimed, bound and attached with `ready` 0, after the three frames of R109, with
the sensor's feed on and every other slot as it was (R105, R113; the least index is the spec's own choice D13). -/
def Obligations.RegisterCompletes : Prop :=
  ∀ (s : State) (pin : Pin) (b : Binding) (f : Byte) (r : StorageRef) (j : Nat), Idle s (.register pin b f r) →
    irqCapable s.cfg pin = true → j < s.slots.length → (s.slot j).claimed = false →
    (∀ k, k < j → (s.slot k).claimed = true) → (∀ x ∈ s.slots, x.attached = true → x.pin ≠ pin) →
    (∀ x ∈ s.slots, x.claimed = true → x.sampleRef ≠ r) → (s.sample r).tagged = true →
    feedMode s.cfg f = (s.sample r).mode → s.modeConflict b f = false →
    (∀ w, s.window b s.cfg.regFeed1 = some w → feedOffByte s.cfg w = feedOffByte s.cfg f) → NoFailure 8 s →
    ∃ t, execRun (.register pin b f r) 8 s = some t ∧ Returned t { st := .ok, rslot := some j } ∧
      t.slot j = { s.slot j with
        claimed := true, busAddress := b.busAddress, busSpeed := b.busSpeed, rapRead := b.tp, rapWrite := b.tp,
        sampleRef := r, ready := false, pin := pin, attached := true } ∧
      (∀ k, k ≠ j → t.slot k = s.slot k) ∧ t.pending = s.pending ∧ t.ie = s.ie ∧
      t.trace = .write b s.cfg.regFeed1 (feedOnByte s.cfg f) :: .write b s.cfg.regStatus s.cfg.statusClear ::
        .write b s.cfg.regFeed1 (feedOffByte s.cfg f) :: s.trace ∧
      (t.sensor b).feed = true

/-- UNREGISTER completes in its three lines: the slot is unattached and unclaimed, its latch clear, its ready
flag, raw buffer and binding as they were; no other slot and nothing on any bus changes, whether or not the slot
was attached or claimed (R110; that it releases the slot is the spec's own reading D14). -/
def Obligations.UnregisterReleases : Prop :=
  ∀ (s : State) (i : Nat), Idle s (.unregister i) → s.Sized →
    ((s.slot i).attached = false → s.isPending i = false) →
    ∃ t, execRun (.unregister i) 3 s = some t ∧ Returned t { st := .ok } ∧
      t.slot i = { s.slot i with claimed := false, attached := false } ∧ t.isPending i = false ∧
      (∀ k, k ≠ i → t.slot k = s.slot k ∧ t.isPending k = s.isPending k) ∧
      t.vecs = s.vecs ∧ t.ie = s.ie ∧ t.samples = s.samples ∧ BusSame s t

/-- After UNREGISTER a rising edge on the pin the slot was attached to changes nothing: no latch is set, so no vector
is dispatched and no frame sent for it (R115). That UNREGISTER discards a latched edge is the spec's own choice D14, and
that no other attached slot has the pin is R174, its choice D25. -/
def Obligations.DetachIsEffective : Prop :=
  ∀ (s t : State) (i : Nat), Idle s (.unregister i) → s.Sized → s.RegistrationsDistinct →
    (s.slot i).attached = true → execRun (.unregister i) 3 s = some t →
    t.isPending i = false ∧ t.edge (s.slot i).pin = t

/-- CONSUME_READY answers with the ready flag of a claimed slot and does not clear it; of an unclaimed slot it
answers with a free value, by the spec's own choice D14. No slot changes (R111). -/
def Obligations.ConsumeReadyReadsTheFlag : Prop :=
  ∀ (s : State) (i : Nat), Idle s (.consumeReady i) →
    ∃ t, exec (.consumeReady i) s = .next t ∧
      ((s.slot i).claimed = true → Returned t { st := .ok, rbool := some (s.slot i).ready }) ∧
      ((s.slot i).claimed = false → Returned t { st := .ok, rbool := some s.answer.flag }) ∧
      t.slots = s.slots ∧ t.pending = s.pending ∧ t.vecs = s.vecs ∧ t.ie = s.ie ∧ OutsideSame s t ∧ BusSame s t ∧
      ∀ r, { t.sample r with covered := (s.sample r).covered } = s.sample r

/-- CLEAR_READY clears the flag and nothing else of the table (R112), of an unclaimed slot too by the spec's own choice
D14; its `op` at the port is 0x7 by the spec's own choice D21. -/
def Obligations.ClearReadyClearsTheFlag : Prop :=
  ∀ (s : State) (i : Nat), Idle s (.clearReady i) → s.Sized →
    ∃ t, exec (.clearReady i) s = .next t ∧ Returned t { st := .ok } ∧
      t.slot i = { s.slot i with ready := false } ∧ (∀ k, k ≠ i → t.slot k = s.slot k) ∧
      t.pending = s.pending ∧ t.vecs = s.vecs ∧ t.ie = s.ie ∧ t.samples = s.samples ∧ OutsideSame s t ∧
      BusSame s t ∧ encode s.cfg (.clearReady i) = some (.port { op := 0x7, slot := i })

/-- Once the last step of a body of a claimed slot has run, CONSUME_READY returns true, however often, until
CLEAR_READY is called, and false immediately after it (R114). Here only the slot's CONSUME_READYs stand between; that no
other step of the machine clears the flag of a claimed slot is `ClaimsStayUntilReleased`. -/
def Obligations.ReadyUntilCleared : Prop :=
  ∀ (s : State) (i : Nat), Idle s (.consumeReady i) → s.Sized → (s.slot i).claimed = true →
    (s.vec i).ph = .setReady →
    ∃ t, exec (.irqBody i) s = .next t ∧ ∀ n, ∃ u x y,
      execRun (.consumeReady i) (n + 1) t = some u ∧ Returned u { st := .ok, rbool := some true } ∧
      exec (.clearReady i) u = .next x ∧
      exec (.consumeReady i) x = .next y ∧ Returned y { st := .ok, rbool := some false }

/-! Interrupts. -/

/-- Dispatch clears the latch, reads the slot, and sets the phase to READ; the foreground sequencer, the
interrupt enable, every slot, every other vector and latch, every bus and every storage field stay as they were
(R147, R122; run to completion between steps is the spec's own choice D16). -/
def Obligations.DispatchEntersTheBody : Prop :=
  ∀ (s : State) (i : Nat), s.Sized → i < s.cfg.nSlots → s.isPending i = true → s.ie = true →
    (∀ j, (s.vec j).ph = .idle) →
    ∃ t, exec (.irqBody i) s = .next t ∧ t.isPending i = false ∧
      t.vec i = { s.vec i with
        ph := .read
        rbind := ⟨(s.slot i).rapRead, (s.slot i).busAddress, (s.slot i).busSpeed⟩
        wbind := ⟨(s.slot i).rapWrite, (s.slot i).busAddress, (s.slot i).busSpeed⟩
        sref := (s.slot i).sampleRef
        mode := (s.sample (s.slot i).sampleRef).mode } ∧
      (∀ j, j ≠ i → t.vec j = s.vec j ∧ t.isPending j = s.isPending j) ∧
      t.fg = s.fg ∧ t.ie = s.ie ∧ t.slots = s.slots ∧ t.result = s.result ∧ OutsideSame s t ∧ BusSame s t ∧
      ∀ r, { t.sample r with covered := (s.sample r).covered } = s.sample r

/-- The five steps of IRQ_BODY in order, READ, STAMP, CLEAR, DECODE, SETREADY, when its frames are done: what each
does. READ fills the front of `raw`, six bytes in absolute mode and four in relative mode, and keeps the rest; DECODE
writes the member that the tag selects, in plain arithmetic, and keeps the other (R15, R122 to R126, R130, R131; the
masks are the spec's own choice D20; that the status register holds the byte written to it, U3, is log 8). -/
def Obligations.BodyRunsItsFiveSteps : Prop :=
  ∀ (s : State) (i : Nat), s.Sized → i < s.cfg.nSlots →
    ((s.vec i).ph = .read → s.answer.fail = false →
      ∃ t bytes, exec (.irqBody i) s = .next t ∧ PacketFilled (s.vec i).mode (s.slot i).raw (t.slot i).raw bytes ∧
        t.trace = .read (s.vec i).rbind s.cfg.regPktBase bytes.length bytes :: s.trace ∧
        (t.slot i).ready = (s.slot i).ready ∧
        VecGoesOn s t i .stamp ∧ t.samples = s.samples) ∧
    ((s.vec i).ph = .stamp →
      ∃ t, exec (.irqBody i) s = .next t ∧
        t.sample (s.vec i).sref = { s.sample (s.vec i).sref with timestamp := s.answer.time % 2 ^ s.cfg.timeWidth } ∧
        VecGoesOn s t i .clear ∧ t.slots = s.slots ∧ BusSame s t) ∧
    ((s.vec i).ph = .clear → s.answer.fail = false →
      ∃ t, exec (.irqBody i) s = .next t ∧
        WriteFrame s t (s.vec i).wbind s.cfg.regStatus s.cfg.statusClear ∧
        (t.sensor (s.vec i).wbind).line = false ∧ VecGoesOn s t i .decode ∧ t.slots = s.slots ∧
        t.samples = s.samples) ∧
    ((s.vec i).ph = .decode →
      ∃ t, exec (.irqBody i) s = .next t ∧
        SampleDecoded (s.vec i).mode (s.slot i).raw (s.sample (s.vec i).sref) (t.sample (s.vec i).sref) ∧
        VecGoesOn s t i .setReady ∧ t.slots = s.slots ∧ BusSame s t) ∧
    ((s.vec i).ph = .setReady →
      ∃ t, exec (.irqBody i) s = .next t ∧ t.slot i = { s.slot i with ready := true } ∧ VecGoesOn s t i .idle ∧
        t.samples = s.samples ∧ BusSame s t)

/-- A bus failure in step 1 or 3 of the body ends it: the fault latch is set, no later step runs, `ready` and the
storage are as they were, and after a failure in step 3 so is `raw` (R128; the spec's own choice D15). -/
def Obligations.BodyFailureSetsTheLatch : Prop :=
  ∀ (s : State) (i : Nat), s.Sized → i < s.cfg.nSlots → ((s.vec i).ph = .read ∨ (s.vec i).ph = .clear) →
    s.answer.fail = true →
    ∃ t, exec (.irqBody i) s = .next t ∧ t.vec i = { s.vec i with fault := true, ph := .idle } ∧
      (t.slot i).ready = (s.slot i).ready ∧ t.samples = s.samples ∧ t.fg = s.fg ∧
      ((s.vec i).ph = .clear → t.slots = s.slots)

/-- The frame of IRQ_BODY: it touches slot `i` only in `raw` and `ready`, no other slot, no other vector or latch,
no storage but the one it refers to, no sensor but the two its binding reaches, and nothing of the foreground. It
stores no byte but its sensor's status register (R121, R117 (3)). -/
def Obligations.BodyTouchesOnlyItsSlot : Prop :=
  ∀ (s t : State) (i : Nat), s.Sized → (s.vec i).ph ≠ .idle → exec (.irqBody i) s = .next t →
    OnlyRawReady s t i ∧ (∀ j, j ≠ i → t.vec j = s.vec j) ∧ t.pending = s.pending ∧ t.ie = s.ie ∧ t.fg = s.fg ∧
    t.result = s.result ∧ t.fnResult = s.fnResult ∧ OutsideSame s t ∧
    (∀ r, r ≠ (s.vec i).sref → t.sample r = s.sample r) ∧
    (∀ b, sensorKey b ≠ sensorKey (s.vec i).rbind → sensorKey b ≠ sensorKey (s.vec i).wbind →
      t.sensor b = s.sensor b) ∧
    (∀ a, a ≠ windowAddr (s.vec i).wbind s.cfg.regStatus → t.byteAt a = s.byteAt a)

/-- A body whose frames are done completes in five steps from READ: the front of `raw` is the packet of its frame and
the rest is as it was, the storage holds the time and the member the tag selects decoded from `raw`, `ready` is 1, the
vector is IDLE, and it sent the packet read and then the clearing write (R15, R122 to R126, R130, R131; the masks are
the spec's own choice D20). -/
def Obligations.BodyCompletes : Prop :=
  ∀ (s : State) (i : Nat), s.Sized → i < s.cfg.nSlots → (s.vec i).ph = .read → NoFailure 5 s →
    ∃ t bytes, execRun (.irqBody i) 5 s = some t ∧ PacketFilled (s.vec i).mode (s.slot i).raw (t.slot i).raw bytes ∧
      t.slot i = { s.slot i with raw := (t.slot i).raw, ready := true } ∧
      SampleDecoded (s.vec i).mode (t.slot i).raw
        { s.sample (s.vec i).sref with timestamp := s.tick.answer.time % 2 ^ s.cfg.timeWidth }
        (t.sample (s.vec i).sref) ∧
      t.vec i = { s.vec i with ph := .idle } ∧
      t.trace = .write (s.vec i).wbind s.cfg.regStatus s.cfg.statusClear ::
        .read (s.vec i).rbind s.cfg.regPktBase bytes.length bytes :: s.trace ∧
      (t.sensor (s.vec i).wbind).line = false ∧ t.fg = s.fg

/-- The decode functions in plain arithmetic. DECODE_ABS: X is byte 2 with the low nibble of byte 4 above it, Y is byte
3 with its high nibble above it, Z and the buttons are the low six bits of bytes 5 and 0, `touching` is X not zero.
DECODE_REL: the buttons are the low three bits of byte 0, the deltas are bytes 1 to 3 read as two's complement. Nothing
but the result is written (R124, R125, R126; the masks and byte 5 for Z are the spec's own choice D20; where the result
is left is the model's, log 12). -/
def Obligations.DecodeFields : Prop :=
  (∀ (s : State) (b0 b1 b2 b3 b4 b5 : Byte),
    ∃ a, exec (.decodeAbs b0 b1 b2 b3 b4 b5) s = .next { s with fnResult := .abs a } ∧ AbsDecoded b0 b2 b3 b4 b5 a) ∧
  (∀ (s : State) (b0 b1 b2 b3 : Byte),
    ∃ r, exec (.decodeRel b0 b1 b2 b3) s = .next { s with fnResult := .rel r } ∧ RelDecoded b0 b1 b2 b3 r)

/-- A rising edge sets the latch of exactly the vectors whose slot is attached to the pin; a set latch stays set,
and nothing else changes (R143, R144; the one-bit latch is the spec's own choice D16). -/
def Obligations.EdgeSetsTheLatch : Prop :=
  ∀ (s : State) (p : Pin) (i : Nat), s.Sized →
    ((s.edge p).isPending i = true ↔
      s.isPending i = true ∨ ((s.slot i).attached = true ∧ (s.slot i).pin = p)) ∧
    s.edge p = { s with pending := (s.edge p).pending }

/-- A sensor with its feed off produces no sample and no edge, and plain storage changes nothing on its own (R141, R88).
With the feed on, a sample puts its bytes, six at most, into the packet registers and sets the data-ready flag; the line
goes high, and if it was low its pin has a rising edge. Every other byte, every other sensor and everything of the block
but the latches stays (R28, R31, R34, R143; that six bytes are taken in either mode, and that a status byte nothing has
written stays unknown but for the simulated sensor, is log 17). -/
def Obligations.OnlyAFeedingSensorInterrupts : Prop :=
  ∀ (s : State) (b : Binding) (bytes : List Byte), s.cfg.valid = true →
    ((s.sensor b).feed = false ∨ deviceModel s.cfg b = .plainStorage → s.deviceSample b bytes = s) ∧
    ((s.sensor b).feed = true → deviceModel s.cfg b ≠ .plainStorage →
      ∃ t, s.deviceSample b bytes = t ∧ t.sensor b = { s.sensor b with line := true } ∧
        ((s.sensor b).line = true → t.pending = s.pending) ∧
        (∀ p, (s.sensor b).line = false → wiredPin s.cfg b = some p → t.pending = (s.edge p).pending) ∧
        (∀ k v, k < 6 → bytes[k]? = some v → t.window b (s.cfg.regPktBase + BitVec.ofNat 5 k) = some v) ∧
        (∀ v, s.window b s.cfg.regStatus = some v →
          t.window b s.cfg.regStatus = some (v ||| s.cfg.statusDrMask)) ∧
        (deviceModel s.cfg b = .refSim → s.window b s.cfg.regStatus = none →
          t.window b s.cfg.regStatus = some s.cfg.statusDrMask) ∧
        (∀ a, a ≠ windowAddr b s.cfg.regStatus →
          (∀ k, k < 6 → k < bytes.length → a ≠ windowAddr b (s.cfg.regPktBase + BitVec.ofNat 5 k)) →
          t.byteAt a = s.byteAt a) ∧
        OtherSensorsSame s t b ∧
        t = { s with mem := t.mem, sensors := t.sensors, pending := t.pending })

/-- A read of a storage that CONSUME_READY has covered gives the stored value, whichever field of the member the tag
selects, the timestamp or the tag; after a CLEAR_READY it still does, and after its owner writes the same tag again,
until the vector's next dispatch; the timestamp also after another tag (R25, R55; the order of the stores is the spec's
own choice D19; the model's own bit `covered` is log 13). A read of the member the tag does not select is a fault (R25). -/
def Obligations.CoveredReadsSeeTheSample : Prop :=
  ∀ (s : State) (r : StorageRef) (f : SampleField),
    ((fieldMode f = none ∨ fieldMode f = some (s.sample r).mode) → ∀ v, fieldValue (s.sample r) f = some v →
      ∀ i, Idle s (.consumeReady i) → (s.slot i).claimed = true → (s.slot i).ready = true →
      (s.slot i).sampleRef = r →
      ∃ t u, exec (.consumeReady i) s = .next t ∧ t.load r f = .next { t with loaded := v :: t.loaded } ∧
        exec (.clearReady i) t = .next u ∧ u.load r f = .next { u with loaded := v :: u.loaded }) ∧
    ((s.sample r).covered = true → (fieldMode f = none ∨ fieldMode f = some (s.sample r).mode) →
      ∀ v, fieldValue (s.sample r) f = some v → ∀ m t, (m = (s.sample r).mode ∨ f = .timestamp) →
      s.writeMode r m = .next t → t.load r f = .next { t with loaded := v :: t.loaded }) ∧
    (∀ m, fieldMode f = some m → m ≠ (s.sample r).mode → s.load r f = .fault .unselectedMember)

/-- What the host must keep while a slot is attached or claimed. The tag of a storage that an attached slot refers to
may not be written; any other may (R173; the spec's own choice D10), and then the member it does not select holds no value
(R25; that a new tag takes the other member away, and brings none back, is log 41). A feed byte whose data mode is not the tag of an
attached slot's storage on that sensor is refused, whichever operation sends it, and so is taking away a storage, a pin
or a transport that a claimed slot uses (R163, R178); where the model looks for a changed data mode, and what it makes of
a thing taken away, is its choice (log 35, log 36). -/
def Obligations.TagAndModeAreFixed : Prop :=
  (∀ (s : State) (r : StorageRef) (m : Mode),
    ((∃ x ∈ s.slots, x.attached = true ∧ x.sampleRef = r) → s.writeMode r m = .refused .modeWhileAttached) ∧
    ((∀ x ∈ s.slots, x.attached = true → x.sampleRef ≠ r) →
      ∃ t, s.writeMode r m = .next t ∧ (t.sample r).mode = m ∧ (t.sample r).tagged = true ∧
        (t.sample r).abs = (if m = .absolute then (s.sample r).abs else none) ∧
        (t.sample r).rel = (if m = .relative then (s.sample r).rel else none) ∧
        (t.sample r).timestamp = (s.sample r).timestamp ∧ (t.sample r).covered = (s.sample r).covered ∧ ∀ r', r' ≠ r → t.sample r' = s.sample r')) ∧
  (∀ (s : State) (b : Binding) (v f : Byte), s.cfg.valid = true → s.cfg.reaches b = true → s.fg.op = none →
    ((∃ x ∈ s.slots, x.attached = true ∧ x.rapRead = b.tp ∧ x.busAddress = b.busAddress ∧
      (v &&& s.cfg.feed1AbsMask ≠ 0 ↔ (s.sample x.sampleRef).mode = .relative)) →
      exec (.rapWrite b s.cfg.regFeed1 v) s = .refused .dataModeConflict ∧
      s.otherFeed b v = .refused .dataModeConflict) ∧
    (s.modeConflict b f = true →
      exec (.feedDisable b f) s = .refused .dataModeConflict ∧
      exec (.feedEnable b f) s = .refused .dataModeConflict ∧
      (∀ addr n, (Instr.eraRead b f addr n).wf s.cfg = true →
        exec (.eraRead b f addr n) s = .refused .dataModeConflict) ∧
      ∀ addr d, exec (.eraWrite b f addr d) s = .refused .dataModeConflict)) ∧
  (∀ (s : State) (x : Slot), x ∈ s.slots → x.claimed = true →
    s.discard (.storage x.sampleRef) = .refused .resourceInUse ∧ s.discard (.pin x.pin) = .refused .resourceInUse ∧
    s.discard (.transport x.rapRead) = .refused .resourceInUse)

/-! Invariants of every step. -/

/-- Every step keeps `TableInv`, attached implies claimed; `PendingInv`, only an attached slot has a set latch; and
`OneTransport`, both callbacks of a slot belong to one transport (R17, R117 (1), R143, R110, R14). -/
def Obligations.StepKeepsTheTable : Prop :=
  ∀ s t : State, step s = .next t →
    (s.TableInv → t.TableInv) ∧ (s.PendingInv → t.PendingInv) ∧ (s.OneTransport → t.OneTransport)

/-- A claim stays until it is released. In every step but a power cycle a claimed slot keeps its binding and its
storage, stays claimed unless the step is line 2 of its UNREGISTER, and stays ready unless the foreground's instruction
is its CLEAR_READY (R13, R16, R117 (2), (5)). A slot is claimed only by line 3 of the REGISTER that chose it, its flag is
set only by the last step of its own body and its raw buffer changes only in READ of its own body (R13, R15, R16); no
more than `N` slots are claimed (R117 (4)), and while a body runs no slot but its own changes (R117 (3)). A power cycle
resets the table (log 24). -/
def Obligations.ClaimsStayUntilReleased : Prop :=
  ∀ s t : State, s.TableInv → step s = .next t → s.moves.head? ≠ some .powerCycle →
    (t.slots.filter (fun x => x.claimed)).length ≤ t.cfg.nSlots ∧
    (∀ i, s.running = some i → ∀ j, j ≠ i → t.slot j = s.slot j) ∧
    ∀ i,
      ((s.slot i).claimed = true →
        (t.slot i).binding = (s.slot i).binding ∧ (t.slot i).rapWrite = (s.slot i).rapWrite ∧
        (t.slot i).sampleRef = (s.slot i).sampleRef ∧
        (¬(s.fg.op = some (.unregister i) ∧ s.fg.ph = .line 2) → (t.slot i).claimed = true) ∧
        (s.nextInstr ≠ some (.clearReady i) → (s.slot i).ready = true → (t.slot i).ready = true)) ∧
      ((s.slot i).claimed = false → (t.slot i).claimed = true →
        ∃ pin b f r, s.AtRegister pin b f r 3 ∧ s.fg.slot = i) ∧
      ((s.slot i).ready = false → (t.slot i).ready = true → s.running = some i ∧ (s.vec i).ph = .setReady) ∧
      ((t.slot i).raw ≠ (s.slot i).raw → s.running = some i ∧ (s.vec i).ph = .read)

/-- No nesting: every step keeps at most one body running (R149; the spec's own choice D16). -/
def Obligations.StepKeepsOneBody : Prop :=
  ∀ s t : State, s.OneBody → step s = .next t → t.OneBody

/-- While a body runs, no step of the machine but a power cycle moves the foreground sequencer, gives an answer or
dispatches another vector (R147, R148, R149; the spec's own choice D16). That the interrupt enable stays is the model's:
the host is suspended too (log 9), and a body runs to its end (log 11). -/
def Obligations.ForegroundWaitsForTheBody : Prop :=
  ∀ (s t : State) (i : Nat), s.OneBody → s.running = some i → s.moves.head? ≠ some .powerCycle →
    step s = .next t → t.fg = s.fg ∧ t.result = s.result ∧ t.ie = s.ie ∧
      ∀ j, j ≠ i → (t.vec j).ph = .idle

/-- Every step keeps `BodyBindingInv`: a running body works on the binding its slot holds (R54, R117 (2), R173); that
nothing of the host moves meanwhile is log 9 and log 11. With it every step keeps `OneMember`: of a storage only the member
its tag selects holds a value (R24, R25; that a new tag takes the other one away is log 41). -/
def Obligations.StepKeepsBodyBinding : Prop :=
  ∀ s t : State, s.BodyBindingInv → step s = .next t → t.BodyBindingInv ∧ (s.OneMember → t.OneMember)

/-- Every step keeps `RegistrationsDistinct`: no pin and no storage is registered twice (R174; the spec's own choice
D25; where the duplicate is refused is the model's, log 16). -/
def Obligations.StepKeepsRegistrationsDistinct : Prop :=
  ∀ s t : State, s.RegistrationsDistinct → step s = .next t → t.RegistrationsDistinct

/-- Every step keeps the canonical form of memory and of the keyed storages: the model's own form (log 8). -/
def Obligations.StepKeepsCanonicalForm : Prop :=
  ∀ s t : State, s.CanonicalForm → step s = .next t → t.CanonicalForm

/-- IDLE exactly between operations: every step keeps `SequencerInv` (R19, R21). -/
def Obligations.StepKeepsSequencer : Prop :=
  ∀ s t : State, s.SequencerInv → step s = .next t → t.SequencerInv

/-- No step changes the parameters, and no step but a power cycle clears a fault latch (R5, R36). -/
def Obligations.ParametersAndFaultsStay : Prop :=
  ∀ s t : State, step s = .next t →
    t.cfg = s.cfg ∧
    (s.moves.head? ≠ some .powerCycle → ∀ i, (s.vec i).fault = true → (t.vec i).fault = true)
end

