-- ==== Sys2Proof/Laws/Memory.lean ====
section
/-! SUPPORT. The laws of sparse storage: a read after a write to the same address gives the value written, a
write leaves every other address alone, and every operation keeps the canonical form. -/

namespace Sys2Proof.Machine

variable {α : Type}

@[simp] theorem Sparse.get?_nil (a : Nat) : Sparse.get? ([] : List (Nat × α)) a = none := rfl

@[simp] theorem Sparse.get?_put_same (m : List (Nat × α)) (a : Nat) (v : α) :
    Sparse.get? (Sparse.put m a v) a = some v := by
  induction m with
  | nil => simp [Sparse.put, Sparse.get?]
  | cons e m ih =>
    obtain ⟨k, w⟩ := e
    simp only [Sparse.put]
    split
    · simp [Sparse.get?]
    · split
      · simp [Sparse.get?]
      · rename_i h; simp [Sparse.get?, h, ih]

theorem Sparse.get?_put_other (m : List (Nat × α)) {a b : Nat} (v : α) (h : b ≠ a) :
    Sparse.get? (Sparse.put m a v) b = Sparse.get? m b := by
  induction m with
  | nil => simp [Sparse.put, Sparse.get?, h]
  | cons e m ih =>
    obtain ⟨k, w⟩ := e
    simp only [Sparse.put]
    split
    · simp [Sparse.get?, h]
    · split
      · rename_i hk; subst hk; simp [Sparse.get?, h]
      · simp [Sparse.get?, ih]

@[simp] theorem Sparse.get?_erase_same (m : List (Nat × α)) (a : Nat) :
    Sparse.get? (Sparse.erase m a) a = none := by
  induction m with
  | nil => rfl
  | cons e m ih =>
    simp only [Sparse.erase]
    split
    · exact ih
    · rename_i h; simp [Sparse.get?, h, ih]

theorem Sparse.get?_erase_other (m : List (Nat × α)) {a b : Nat} (h : b ≠ a) :
    Sparse.get? (Sparse.erase m a) b = Sparse.get? m b := by
  induction m with
  | nil => rfl
  | cons e m ih =>
    obtain ⟨k, w⟩ := e
    simp only [Sparse.erase]
    split
    · rename_i hk; subst hk; simp [Sparse.get?, h, ih]
    · simp [Sparse.get?, ih]

@[simp] theorem Sparse.getD_nil (a : Nat) (d : α) : Sparse.getD [] a d = d := rfl

@[simp] theorem Sparse.getD_putD_same [DecidableEq α] (m : List (Nat × α)) (a : Nat) (d v : α) :
    Sparse.getD (Sparse.putD m a d v) a d = v := by
  unfold Sparse.getD Sparse.putD
  split
  · rename_i h; simp [h]
  · simp

theorem Sparse.getD_putD_other [DecidableEq α] (m : List (Nat × α)) {a b : Nat} (d v : α) (h : b ≠ a) :
    Sparse.getD (Sparse.putD m a d v) b d = Sparse.getD m b d := by
  unfold Sparse.getD Sparse.putD
  split
  · rw [Sparse.get?_erase_other m h]
  · rw [Sparse.get?_put_other m v h]

@[simp] theorem Sparse.above_cons (a : Nat) (e : Nat × α) (m : List (Nat × α)) :
    Sparse.above a (e :: m) = (decide (a < e.1) && Sparse.above a m) := rfl

theorem Sparse.above_put (m : List (Nat × α)) {a b : Nat} (v : α) (h : b < a) (hm : Sparse.above b m = true) :
    Sparse.above b (Sparse.put m a v) = true := by
  induction m with
  | nil => simpa [Sparse.put, Sparse.above] using h
  | cons e m ih =>
    simp only [Sparse.above_cons, Bool.and_eq_true, decide_eq_true_eq] at hm
    simp only [Sparse.put]
    split
    · simp [h, hm]
    · split
      · simp [h, hm]
      · simp [hm, ih hm.2]

theorem Sparse.above_erase (m : List (Nat × α)) (a b : Nat) (hm : Sparse.above b m = true) :
    Sparse.above b (Sparse.erase m a) = true := by
  induction m with
  | nil => rfl
  | cons e m ih =>
    simp only [Sparse.above_cons, Bool.and_eq_true, decide_eq_true_eq] at hm
    simp only [Sparse.erase]
    split
    · exact ih hm.2
    · simp [hm, ih hm.2]

theorem Sparse.above_mono (m : List (Nat × α)) {a b : Nat} (h : a < b) (hm : Sparse.above b m = true) :
    Sparse.above a m = true := by
  simp only [Sparse.above, List.all_eq_true, decide_eq_true_eq] at *
  exact fun e he => lt_trans h (hm e he)

/-- Writing keeps addresses rising. -/
theorem Sparse.rising_put (m : List (Nat × α)) (a : Nat) (v : α) (h : Sparse.rising m = true) :
    Sparse.rising (Sparse.put m a v) = true := by
  induction m with
  | nil => rfl
  | cons e m ih =>
    obtain ⟨k, w⟩ := e
    simp only [Sparse.rising, Bool.and_eq_true] at h
    simp only [Sparse.put]
    split
    · rename_i hk
      simp [Sparse.rising, h, hk, Sparse.above_mono m hk h.1]
    · split
      · rename_i hk; subst hk; simp [Sparse.rising, h]
      · have hk : k < a := by omega
        simp [Sparse.rising, ih h.2, Sparse.above_put m v hk h.1]

/-- Taking an entry away keeps addresses rising. -/
theorem Sparse.rising_erase (m : List (Nat × α)) (a : Nat) (h : Sparse.rising m = true) :
    Sparse.rising (Sparse.erase m a) = true := by
  induction m with
  | nil => rfl
  | cons e m ih =>
    obtain ⟨k, w⟩ := e
    simp only [Sparse.rising, Bool.and_eq_true] at h
    simp only [Sparse.erase]
    split
    · exact ih h.2
    · simp [Sparse.rising, ih h.2, Sparse.above_erase m a k h.1]

theorem Sparse.all_put (m : List (Nat × α)) (a : Nat) (v : α) (p : Nat × α → Bool)
    (hv : p (a, v) = true) (h : m.all p = true) : (Sparse.put m a v).all p = true := by
  induction m with
  | nil => simpa [Sparse.put] using hv
  | cons e m ih =>
    obtain ⟨k, w⟩ := e
    simp only [List.all_cons, Bool.and_eq_true] at h
    simp only [Sparse.put]
    split
    · simp [hv, h]
    · split
      · simp [hv, h]
      · simp [h, ih h.2]

theorem Sparse.all_erase (m : List (Nat × α)) (a : Nat) (p : Nat × α → Bool) (h : m.all p = true) :
    (Sparse.erase m a).all p = true := by
  induction m with
  | nil => rfl
  | cons e m ih =>
    simp only [List.all_cons, Bool.and_eq_true] at h
    simp only [Sparse.erase]
    split
    · exact ih h.2
    · simp [h, ih h.2]

/-- A write with default keeps the canonical form. -/
theorem Sparse.wfD_putD [DecidableEq α] (m : List (Nat × α)) (a : Nat) (d v : α) (h : Sparse.wfD d m = true) :
    Sparse.wfD d (Sparse.putD m a d v) = true := by
  simp only [Sparse.wfD, Bool.and_eq_true] at *
  unfold Sparse.putD
  split
  · exact ⟨Sparse.rising_erase m a h.1, Sparse.all_erase m a _ h.2⟩
  · rename_i hv
    exact ⟨Sparse.rising_put m a v h.1, Sparse.all_put m a v _ (by simpa using hv) h.2⟩

/-- Every memory operation keeps the canonical form. -/
theorem Memory.wf_set (m : Memory) (a : Nat) (v : Option Byte) (h : Memory.wf m = true) :
    Memory.wf (Memory.set m a v) = true := by
  cases v with
  | none => exact Sparse.rising_erase m a h
  | some v => exact Sparse.rising_put m a v h

@[simp] theorem Memory.get?_set_same (m : Memory) (a : Nat) (v : Option Byte) :
    Sparse.get? (Memory.set m a v) a = v := by
  cases v <;> simp [Memory.set]

theorem Memory.get?_set_other (m : Memory) {a b : Nat} (v : Option Byte) (h : b ≠ a) :
    Sparse.get? (Memory.set m a v) b = Sparse.get? m b := by
  cases v with
  | none => exact Sparse.get?_erase_other m h
  | some v => exact Sparse.get?_put_other m v h

end Sys2Proof.Machine
end

