-- ==== Sys2Proof/Laws/State.lean ====
section
/-! SUPPORT. One lemma for each field and each update of the state: what the update writes, and that it writes
nothing else. All are true by definition; later proofs use them and unfold no record update. -/

namespace Sys2Proof.Machine

/-! `setSlot` -/

@[simp] theorem State.setSlot_cfg (s : State) (i : Nat) (x : Slot) :
    (s.setSlot i x).cfg = s.cfg := rfl

@[simp] theorem State.setSlot_slots (s : State) (i : Nat) (x : Slot) :
    (s.setSlot i x).slots = s.slots.set i x := rfl

@[simp] theorem State.setSlot_vecs (s : State) (i : Nat) (x : Slot) :
    (s.setSlot i x).vecs = s.vecs := rfl

@[simp] theorem State.setSlot_pending (s : State) (i : Nat) (x : Slot) :
    (s.setSlot i x).pending = s.pending := rfl

@[simp] theorem State.setSlot_ie (s : State) (i : Nat) (x : Slot) :
    (s.setSlot i x).ie = s.ie := rfl

@[simp] theorem State.setSlot_fg (s : State) (i : Nat) (x : Slot) :
    (s.setSlot i x).fg = s.fg := rfl

@[simp] theorem State.setSlot_port (s : State) (i : Nat) (x : Slot) :
    (s.setSlot i x).port = s.port := rfl

@[simp] theorem State.setSlot_result (s : State) (i : Nat) (x : Slot) :
    (s.setSlot i x).result = s.result := rfl

@[simp] theorem State.setSlot_fnResult (s : State) (i : Nat) (x : Slot) :
    (s.setSlot i x).fnResult = s.fnResult := rfl

@[simp] theorem State.setSlot_samples (s : State) (i : Nat) (x : Slot) :
    (s.setSlot i x).samples = s.samples := rfl

@[simp] theorem State.setSlot_mem (s : State) (i : Nat) (x : Slot) :
    (s.setSlot i x).mem = s.mem := rfl

@[simp] theorem State.setSlot_sensors (s : State) (i : Nat) (x : Slot) :
    (s.setSlot i x).sensors = s.sensors := rfl

@[simp] theorem State.setSlot_trace (s : State) (i : Nat) (x : Slot) :
    (s.setSlot i x).trace = s.trace := rfl

@[simp] theorem State.setSlot_loaded (s : State) (i : Nat) (x : Slot) :
    (s.setSlot i x).loaded = s.loaded := rfl

@[simp] theorem State.setSlot_moves (s : State) (i : Nat) (x : Slot) :
    (s.setSlot i x).moves = s.moves := rfl

@[simp] theorem State.setSlot_answers (s : State) (i : Nat) (x : Slot) :
    (s.setSlot i x).answers = s.answers := rfl

@[simp] theorem State.setSlot_clock (s : State) (i : Nat) (x : Slot) :
    (s.setSlot i x).clock = s.clock := rfl

@[simp] theorem State.setSlot_patience (s : State) (i : Nat) (x : Slot) :
    (s.setSlot i x).patience = s.patience := rfl

/-! `setVec` -/

@[simp] theorem State.setVec_cfg (s : State) (i : Nat) (x : Vec) :
    (s.setVec i x).cfg = s.cfg := rfl

@[simp] theorem State.setVec_slots (s : State) (i : Nat) (x : Vec) :
    (s.setVec i x).slots = s.slots := rfl

@[simp] theorem State.setVec_vecs (s : State) (i : Nat) (x : Vec) :
    (s.setVec i x).vecs = s.vecs.set i x := rfl

@[simp] theorem State.setVec_pending (s : State) (i : Nat) (x : Vec) :
    (s.setVec i x).pending = s.pending := rfl

@[simp] theorem State.setVec_ie (s : State) (i : Nat) (x : Vec) :
    (s.setVec i x).ie = s.ie := rfl

@[simp] theorem State.setVec_fg (s : State) (i : Nat) (x : Vec) :
    (s.setVec i x).fg = s.fg := rfl

@[simp] theorem State.setVec_port (s : State) (i : Nat) (x : Vec) :
    (s.setVec i x).port = s.port := rfl

@[simp] theorem State.setVec_result (s : State) (i : Nat) (x : Vec) :
    (s.setVec i x).result = s.result := rfl

@[simp] theorem State.setVec_fnResult (s : State) (i : Nat) (x : Vec) :
    (s.setVec i x).fnResult = s.fnResult := rfl

@[simp] theorem State.setVec_samples (s : State) (i : Nat) (x : Vec) :
    (s.setVec i x).samples = s.samples := rfl

@[simp] theorem State.setVec_mem (s : State) (i : Nat) (x : Vec) :
    (s.setVec i x).mem = s.mem := rfl

@[simp] theorem State.setVec_sensors (s : State) (i : Nat) (x : Vec) :
    (s.setVec i x).sensors = s.sensors := rfl

@[simp] theorem State.setVec_trace (s : State) (i : Nat) (x : Vec) :
    (s.setVec i x).trace = s.trace := rfl

@[simp] theorem State.setVec_loaded (s : State) (i : Nat) (x : Vec) :
    (s.setVec i x).loaded = s.loaded := rfl

@[simp] theorem State.setVec_moves (s : State) (i : Nat) (x : Vec) :
    (s.setVec i x).moves = s.moves := rfl

@[simp] theorem State.setVec_answers (s : State) (i : Nat) (x : Vec) :
    (s.setVec i x).answers = s.answers := rfl

@[simp] theorem State.setVec_clock (s : State) (i : Nat) (x : Vec) :
    (s.setVec i x).clock = s.clock := rfl

@[simp] theorem State.setVec_patience (s : State) (i : Nat) (x : Vec) :
    (s.setVec i x).patience = s.patience := rfl

/-! `setPending` -/

@[simp] theorem State.setPending_cfg (s : State) (i : Nat) (v : Bool) :
    (s.setPending i v).cfg = s.cfg := rfl

@[simp] theorem State.setPending_slots (s : State) (i : Nat) (v : Bool) :
    (s.setPending i v).slots = s.slots := rfl

@[simp] theorem State.setPending_vecs (s : State) (i : Nat) (v : Bool) :
    (s.setPending i v).vecs = s.vecs := rfl

@[simp] theorem State.setPending_pending (s : State) (i : Nat) (v : Bool) :
    (s.setPending i v).pending = s.pending.set i v := rfl

@[simp] theorem State.setPending_ie (s : State) (i : Nat) (v : Bool) :
    (s.setPending i v).ie = s.ie := rfl

@[simp] theorem State.setPending_fg (s : State) (i : Nat) (v : Bool) :
    (s.setPending i v).fg = s.fg := rfl

@[simp] theorem State.setPending_port (s : State) (i : Nat) (v : Bool) :
    (s.setPending i v).port = s.port := rfl

@[simp] theorem State.setPending_result (s : State) (i : Nat) (v : Bool) :
    (s.setPending i v).result = s.result := rfl

@[simp] theorem State.setPending_fnResult (s : State) (i : Nat) (v : Bool) :
    (s.setPending i v).fnResult = s.fnResult := rfl

@[simp] theorem State.setPending_samples (s : State) (i : Nat) (v : Bool) :
    (s.setPending i v).samples = s.samples := rfl

@[simp] theorem State.setPending_mem (s : State) (i : Nat) (v : Bool) :
    (s.setPending i v).mem = s.mem := rfl

@[simp] theorem State.setPending_sensors (s : State) (i : Nat) (v : Bool) :
    (s.setPending i v).sensors = s.sensors := rfl

@[simp] theorem State.setPending_trace (s : State) (i : Nat) (v : Bool) :
    (s.setPending i v).trace = s.trace := rfl

@[simp] theorem State.setPending_loaded (s : State) (i : Nat) (v : Bool) :
    (s.setPending i v).loaded = s.loaded := rfl

@[simp] theorem State.setPending_moves (s : State) (i : Nat) (v : Bool) :
    (s.setPending i v).moves = s.moves := rfl

@[simp] theorem State.setPending_answers (s : State) (i : Nat) (v : Bool) :
    (s.setPending i v).answers = s.answers := rfl

@[simp] theorem State.setPending_clock (s : State) (i : Nat) (v : Bool) :
    (s.setPending i v).clock = s.clock := rfl

@[simp] theorem State.setPending_patience (s : State) (i : Nat) (v : Bool) :
    (s.setPending i v).patience = s.patience := rfl

/-! `setSensor` -/

@[simp] theorem State.setSensor_cfg (s : State) (b : Binding) (x : Sensor) :
    (s.setSensor b x).cfg = s.cfg := rfl

@[simp] theorem State.setSensor_slots (s : State) (b : Binding) (x : Sensor) :
    (s.setSensor b x).slots = s.slots := rfl

@[simp] theorem State.setSensor_vecs (s : State) (b : Binding) (x : Sensor) :
    (s.setSensor b x).vecs = s.vecs := rfl

@[simp] theorem State.setSensor_pending (s : State) (b : Binding) (x : Sensor) :
    (s.setSensor b x).pending = s.pending := rfl

@[simp] theorem State.setSensor_ie (s : State) (b : Binding) (x : Sensor) :
    (s.setSensor b x).ie = s.ie := rfl

@[simp] theorem State.setSensor_fg (s : State) (b : Binding) (x : Sensor) :
    (s.setSensor b x).fg = s.fg := rfl

@[simp] theorem State.setSensor_port (s : State) (b : Binding) (x : Sensor) :
    (s.setSensor b x).port = s.port := rfl

@[simp] theorem State.setSensor_result (s : State) (b : Binding) (x : Sensor) :
    (s.setSensor b x).result = s.result := rfl

@[simp] theorem State.setSensor_fnResult (s : State) (b : Binding) (x : Sensor) :
    (s.setSensor b x).fnResult = s.fnResult := rfl

@[simp] theorem State.setSensor_samples (s : State) (b : Binding) (x : Sensor) :
    (s.setSensor b x).samples = s.samples := rfl

@[simp] theorem State.setSensor_mem (s : State) (b : Binding) (x : Sensor) :
    (s.setSensor b x).mem = s.mem := rfl

@[simp] theorem State.setSensor_sensors (s : State) (b : Binding) (x : Sensor) :
    (s.setSensor b x).sensors = Sparse.putD s.sensors (sensorKey b) Sensor.reset x := rfl

@[simp] theorem State.setSensor_trace (s : State) (b : Binding) (x : Sensor) :
    (s.setSensor b x).trace = s.trace := rfl

@[simp] theorem State.setSensor_loaded (s : State) (b : Binding) (x : Sensor) :
    (s.setSensor b x).loaded = s.loaded := rfl

@[simp] theorem State.setSensor_moves (s : State) (b : Binding) (x : Sensor) :
    (s.setSensor b x).moves = s.moves := rfl

@[simp] theorem State.setSensor_answers (s : State) (b : Binding) (x : Sensor) :
    (s.setSensor b x).answers = s.answers := rfl

@[simp] theorem State.setSensor_clock (s : State) (b : Binding) (x : Sensor) :
    (s.setSensor b x).clock = s.clock := rfl

@[simp] theorem State.setSensor_patience (s : State) (b : Binding) (x : Sensor) :
    (s.setSensor b x).patience = s.patience := rfl

/-! `retag` -/

@[simp] theorem Sample.retag_mode (x : Sample) (m : Mode) : (x.retag m).mode = m := rfl

@[simp] theorem Sample.retag_timestamp (x : Sample) (m : Mode) : (x.retag m).timestamp = x.timestamp := rfl

@[simp] theorem Sample.retag_abs (x : Sample) (m : Mode) :
    (x.retag m).abs = if m = .absolute then x.abs else none := rfl

@[simp] theorem Sample.retag_rel (x : Sample) (m : Mode) :
    (x.retag m).rel = if m = .relative then x.rel else none := rfl

@[simp] theorem Sample.retag_covered (x : Sample) (m : Mode) : (x.retag m).covered = x.covered := rfl

@[simp] theorem Sample.retag_tagged (x : Sample) (m : Mode) : (x.retag m).tagged = true := rfl

/-! `setSample` -/

@[simp] theorem State.setSample_cfg (s : State) (r : StorageRef) (x : Sample) :
    (s.setSample r x).cfg = s.cfg := rfl

@[simp] theorem State.setSample_slots (s : State) (r : StorageRef) (x : Sample) :
    (s.setSample r x).slots = s.slots := rfl

@[simp] theorem State.setSample_vecs (s : State) (r : StorageRef) (x : Sample) :
    (s.setSample r x).vecs = s.vecs := rfl

@[simp] theorem State.setSample_pending (s : State) (r : StorageRef) (x : Sample) :
    (s.setSample r x).pending = s.pending := rfl

@[simp] theorem State.setSample_ie (s : State) (r : StorageRef) (x : Sample) :
    (s.setSample r x).ie = s.ie := rfl

@[simp] theorem State.setSample_fg (s : State) (r : StorageRef) (x : Sample) :
    (s.setSample r x).fg = s.fg := rfl

@[simp] theorem State.setSample_port (s : State) (r : StorageRef) (x : Sample) :
    (s.setSample r x).port = s.port := rfl

@[simp] theorem State.setSample_result (s : State) (r : StorageRef) (x : Sample) :
    (s.setSample r x).result = s.result := rfl

@[simp] theorem State.setSample_fnResult (s : State) (r : StorageRef) (x : Sample) :
    (s.setSample r x).fnResult = s.fnResult := rfl

@[simp] theorem State.setSample_samples (s : State) (r : StorageRef) (x : Sample) :
    (s.setSample r x).samples = Sparse.putD s.samples r.toNat Sample.reset x := rfl

@[simp] theorem State.setSample_mem (s : State) (r : StorageRef) (x : Sample) :
    (s.setSample r x).mem = s.mem := rfl

@[simp] theorem State.setSample_sensors (s : State) (r : StorageRef) (x : Sample) :
    (s.setSample r x).sensors = s.sensors := rfl

@[simp] theorem State.setSample_trace (s : State) (r : StorageRef) (x : Sample) :
    (s.setSample r x).trace = s.trace := rfl

@[simp] theorem State.setSample_loaded (s : State) (r : StorageRef) (x : Sample) :
    (s.setSample r x).loaded = s.loaded := rfl

@[simp] theorem State.setSample_moves (s : State) (r : StorageRef) (x : Sample) :
    (s.setSample r x).moves = s.moves := rfl

@[simp] theorem State.setSample_answers (s : State) (r : StorageRef) (x : Sample) :
    (s.setSample r x).answers = s.answers := rfl

@[simp] theorem State.setSample_clock (s : State) (r : StorageRef) (x : Sample) :
    (s.setSample r x).clock = s.clock := rfl

@[simp] theorem State.setSample_patience (s : State) (r : StorageRef) (x : Sample) :
    (s.setSample r x).patience = s.patience := rfl

/-! `setByte` -/

@[simp] theorem State.setByte_cfg (s : State) (a : Nat) (v : Option Byte) :
    (s.setByte a v).cfg = s.cfg := rfl

@[simp] theorem State.setByte_slots (s : State) (a : Nat) (v : Option Byte) :
    (s.setByte a v).slots = s.slots := rfl

@[simp] theorem State.setByte_vecs (s : State) (a : Nat) (v : Option Byte) :
    (s.setByte a v).vecs = s.vecs := rfl

@[simp] theorem State.setByte_pending (s : State) (a : Nat) (v : Option Byte) :
    (s.setByte a v).pending = s.pending := rfl

@[simp] theorem State.setByte_ie (s : State) (a : Nat) (v : Option Byte) :
    (s.setByte a v).ie = s.ie := rfl

@[simp] theorem State.setByte_fg (s : State) (a : Nat) (v : Option Byte) :
    (s.setByte a v).fg = s.fg := rfl

@[simp] theorem State.setByte_port (s : State) (a : Nat) (v : Option Byte) :
    (s.setByte a v).port = s.port := rfl

@[simp] theorem State.setByte_result (s : State) (a : Nat) (v : Option Byte) :
    (s.setByte a v).result = s.result := rfl

@[simp] theorem State.setByte_fnResult (s : State) (a : Nat) (v : Option Byte) :
    (s.setByte a v).fnResult = s.fnResult := rfl

@[simp] theorem State.setByte_samples (s : State) (a : Nat) (v : Option Byte) :
    (s.setByte a v).samples = s.samples := rfl

@[simp] theorem State.setByte_mem (s : State) (a : Nat) (v : Option Byte) :
    (s.setByte a v).mem = Memory.set s.mem a v := rfl

@[simp] theorem State.setByte_sensors (s : State) (a : Nat) (v : Option Byte) :
    (s.setByte a v).sensors = s.sensors := rfl

@[simp] theorem State.setByte_trace (s : State) (a : Nat) (v : Option Byte) :
    (s.setByte a v).trace = s.trace := rfl

@[simp] theorem State.setByte_loaded (s : State) (a : Nat) (v : Option Byte) :
    (s.setByte a v).loaded = s.loaded := rfl

@[simp] theorem State.setByte_moves (s : State) (a : Nat) (v : Option Byte) :
    (s.setByte a v).moves = s.moves := rfl

@[simp] theorem State.setByte_answers (s : State) (a : Nat) (v : Option Byte) :
    (s.setByte a v).answers = s.answers := rfl

@[simp] theorem State.setByte_clock (s : State) (a : Nat) (v : Option Byte) :
    (s.setByte a v).clock = s.clock := rfl

@[simp] theorem State.setByte_patience (s : State) (a : Nat) (v : Option Byte) :
    (s.setByte a v).patience = s.patience := rfl

/-! `setWindow` -/

@[simp] theorem State.setWindow_cfg (s : State) (b : Binding) (r : Reg) (v : Option Byte) :
    (s.setWindow b r v).cfg = s.cfg := rfl

@[simp] theorem State.setWindow_slots (s : State) (b : Binding) (r : Reg) (v : Option Byte) :
    (s.setWindow b r v).slots = s.slots := rfl

@[simp] theorem State.setWindow_vecs (s : State) (b : Binding) (r : Reg) (v : Option Byte) :
    (s.setWindow b r v).vecs = s.vecs := rfl

@[simp] theorem State.setWindow_pending (s : State) (b : Binding) (r : Reg) (v : Option Byte) :
    (s.setWindow b r v).pending = s.pending := rfl

@[simp] theorem State.setWindow_ie (s : State) (b : Binding) (r : Reg) (v : Option Byte) :
    (s.setWindow b r v).ie = s.ie := rfl

@[simp] theorem State.setWindow_fg (s : State) (b : Binding) (r : Reg) (v : Option Byte) :
    (s.setWindow b r v).fg = s.fg := rfl

@[simp] theorem State.setWindow_port (s : State) (b : Binding) (r : Reg) (v : Option Byte) :
    (s.setWindow b r v).port = s.port := rfl

@[simp] theorem State.setWindow_result (s : State) (b : Binding) (r : Reg) (v : Option Byte) :
    (s.setWindow b r v).result = s.result := rfl

@[simp] theorem State.setWindow_fnResult (s : State) (b : Binding) (r : Reg) (v : Option Byte) :
    (s.setWindow b r v).fnResult = s.fnResult := rfl

@[simp] theorem State.setWindow_samples (s : State) (b : Binding) (r : Reg) (v : Option Byte) :
    (s.setWindow b r v).samples = s.samples := rfl

@[simp] theorem State.setWindow_mem (s : State) (b : Binding) (r : Reg) (v : Option Byte) :
    (s.setWindow b r v).mem = Memory.set s.mem (windowAddr b r) v := rfl

@[simp] theorem State.setWindow_sensors (s : State) (b : Binding) (r : Reg) (v : Option Byte) :
    (s.setWindow b r v).sensors = s.sensors := rfl

@[simp] theorem State.setWindow_trace (s : State) (b : Binding) (r : Reg) (v : Option Byte) :
    (s.setWindow b r v).trace = s.trace := rfl

@[simp] theorem State.setWindow_loaded (s : State) (b : Binding) (r : Reg) (v : Option Byte) :
    (s.setWindow b r v).loaded = s.loaded := rfl

@[simp] theorem State.setWindow_moves (s : State) (b : Binding) (r : Reg) (v : Option Byte) :
    (s.setWindow b r v).moves = s.moves := rfl

@[simp] theorem State.setWindow_answers (s : State) (b : Binding) (r : Reg) (v : Option Byte) :
    (s.setWindow b r v).answers = s.answers := rfl

@[simp] theorem State.setWindow_clock (s : State) (b : Binding) (r : Reg) (v : Option Byte) :
    (s.setWindow b r v).clock = s.clock := rfl

@[simp] theorem State.setWindow_patience (s : State) (b : Binding) (r : Reg) (v : Option Byte) :
    (s.setWindow b r v).patience = s.patience := rfl

/-! `setEraByte` -/

@[simp] theorem State.setEraByte_cfg (s : State) (b : Binding) (a : EraAddr) (v : Option Byte) :
    (s.setEraByte b a v).cfg = s.cfg := rfl

@[simp] theorem State.setEraByte_slots (s : State) (b : Binding) (a : EraAddr) (v : Option Byte) :
    (s.setEraByte b a v).slots = s.slots := rfl

@[simp] theorem State.setEraByte_vecs (s : State) (b : Binding) (a : EraAddr) (v : Option Byte) :
    (s.setEraByte b a v).vecs = s.vecs := rfl

@[simp] theorem State.setEraByte_pending (s : State) (b : Binding) (a : EraAddr) (v : Option Byte) :
    (s.setEraByte b a v).pending = s.pending := rfl

@[simp] theorem State.setEraByte_ie (s : State) (b : Binding) (a : EraAddr) (v : Option Byte) :
    (s.setEraByte b a v).ie = s.ie := rfl

@[simp] theorem State.setEraByte_fg (s : State) (b : Binding) (a : EraAddr) (v : Option Byte) :
    (s.setEraByte b a v).fg = s.fg := rfl

@[simp] theorem State.setEraByte_port (s : State) (b : Binding) (a : EraAddr) (v : Option Byte) :
    (s.setEraByte b a v).port = s.port := rfl

@[simp] theorem State.setEraByte_result (s : State) (b : Binding) (a : EraAddr) (v : Option Byte) :
    (s.setEraByte b a v).result = s.result := rfl

@[simp] theorem State.setEraByte_fnResult (s : State) (b : Binding) (a : EraAddr) (v : Option Byte) :
    (s.setEraByte b a v).fnResult = s.fnResult := rfl

@[simp] theorem State.setEraByte_samples (s : State) (b : Binding) (a : EraAddr) (v : Option Byte) :
    (s.setEraByte b a v).samples = s.samples := rfl

@[simp] theorem State.setEraByte_mem (s : State) (b : Binding) (a : EraAddr) (v : Option Byte) :
    (s.setEraByte b a v).mem = Memory.set s.mem (eraAddr b a) v := rfl

@[simp] theorem State.setEraByte_sensors (s : State) (b : Binding) (a : EraAddr) (v : Option Byte) :
    (s.setEraByte b a v).sensors = s.sensors := rfl

@[simp] theorem State.setEraByte_trace (s : State) (b : Binding) (a : EraAddr) (v : Option Byte) :
    (s.setEraByte b a v).trace = s.trace := rfl

@[simp] theorem State.setEraByte_loaded (s : State) (b : Binding) (a : EraAddr) (v : Option Byte) :
    (s.setEraByte b a v).loaded = s.loaded := rfl

@[simp] theorem State.setEraByte_moves (s : State) (b : Binding) (a : EraAddr) (v : Option Byte) :
    (s.setEraByte b a v).moves = s.moves := rfl

@[simp] theorem State.setEraByte_answers (s : State) (b : Binding) (a : EraAddr) (v : Option Byte) :
    (s.setEraByte b a v).answers = s.answers := rfl

@[simp] theorem State.setEraByte_clock (s : State) (b : Binding) (a : EraAddr) (v : Option Byte) :
    (s.setEraByte b a v).clock = s.clock := rfl

@[simp] theorem State.setEraByte_patience (s : State) (b : Binding) (a : EraAddr) (v : Option Byte) :
    (s.setEraByte b a v).patience = s.patience := rfl

/-! `tick` -/

@[simp] theorem State.tick_cfg (s : State) :
    s.tick.cfg = s.cfg := rfl

@[simp] theorem State.tick_slots (s : State) :
    s.tick.slots = s.slots := rfl

@[simp] theorem State.tick_vecs (s : State) :
    s.tick.vecs = s.vecs := rfl

@[simp] theorem State.tick_pending (s : State) :
    s.tick.pending = s.pending := rfl

@[simp] theorem State.tick_ie (s : State) :
    s.tick.ie = s.ie := rfl

@[simp] theorem State.tick_fg (s : State) :
    s.tick.fg = s.fg := rfl

@[simp] theorem State.tick_port (s : State) :
    s.tick.port = s.port := rfl

@[simp] theorem State.tick_result (s : State) :
    s.tick.result = s.result := rfl

@[simp] theorem State.tick_fnResult (s : State) :
    s.tick.fnResult = s.fnResult := rfl

@[simp] theorem State.tick_samples (s : State) :
    s.tick.samples = s.samples := rfl

@[simp] theorem State.tick_mem (s : State) :
    s.tick.mem = s.mem := rfl

@[simp] theorem State.tick_sensors (s : State) :
    s.tick.sensors = s.sensors := rfl

@[simp] theorem State.tick_trace (s : State) :
    s.tick.trace = s.trace := rfl

@[simp] theorem State.tick_loaded (s : State) :
    s.tick.loaded = s.loaded := rfl

@[simp] theorem State.tick_moves (s : State) :
    s.tick.moves = s.moves := rfl

@[simp] theorem State.tick_answers (s : State) :
    s.tick.answers = s.answers.tail := rfl

@[simp] theorem State.tick_clock (s : State) :
    s.tick.clock = s.clock + 1 := rfl

@[simp] theorem State.tick_patience (s : State) :
    s.tick.patience = if s.candidates = [] then none else s.patience := rfl

/-! `record` -/

@[simp] theorem State.record_cfg (s : State) (e : FrameEvent) :
    (s.record e).cfg = s.cfg := rfl

@[simp] theorem State.record_slots (s : State) (e : FrameEvent) :
    (s.record e).slots = s.slots := rfl

@[simp] theorem State.record_vecs (s : State) (e : FrameEvent) :
    (s.record e).vecs = s.vecs := rfl

@[simp] theorem State.record_pending (s : State) (e : FrameEvent) :
    (s.record e).pending = s.pending := rfl

@[simp] theorem State.record_ie (s : State) (e : FrameEvent) :
    (s.record e).ie = s.ie := rfl

@[simp] theorem State.record_fg (s : State) (e : FrameEvent) :
    (s.record e).fg = s.fg := rfl

@[simp] theorem State.record_port (s : State) (e : FrameEvent) :
    (s.record e).port = s.port := rfl

@[simp] theorem State.record_result (s : State) (e : FrameEvent) :
    (s.record e).result = s.result := rfl

@[simp] theorem State.record_fnResult (s : State) (e : FrameEvent) :
    (s.record e).fnResult = s.fnResult := rfl

@[simp] theorem State.record_samples (s : State) (e : FrameEvent) :
    (s.record e).samples = s.samples := rfl

@[simp] theorem State.record_mem (s : State) (e : FrameEvent) :
    (s.record e).mem = s.mem := rfl

@[simp] theorem State.record_sensors (s : State) (e : FrameEvent) :
    (s.record e).sensors = s.sensors := rfl

@[simp] theorem State.record_trace (s : State) (e : FrameEvent) :
    (s.record e).trace = e :: s.trace := rfl

@[simp] theorem State.record_loaded (s : State) (e : FrameEvent) :
    (s.record e).loaded = s.loaded := rfl

@[simp] theorem State.record_moves (s : State) (e : FrameEvent) :
    (s.record e).moves = s.moves := rfl

@[simp] theorem State.record_answers (s : State) (e : FrameEvent) :
    (s.record e).answers = s.answers := rfl

@[simp] theorem State.record_clock (s : State) (e : FrameEvent) :
    (s.record e).clock = s.clock := rfl

@[simp] theorem State.record_patience (s : State) (e : FrameEvent) :
    (s.record e).patience = s.patience := rfl

/-! `setIe` -/

@[simp] theorem State.setIe_cfg (s : State) (v : Bool) :
    (s.setIe v).cfg = s.cfg := rfl

@[simp] theorem State.setIe_slots (s : State) (v : Bool) :
    (s.setIe v).slots = s.slots := rfl

@[simp] theorem State.setIe_vecs (s : State) (v : Bool) :
    (s.setIe v).vecs = s.vecs := rfl

@[simp] theorem State.setIe_pending (s : State) (v : Bool) :
    (s.setIe v).pending = s.pending := rfl

@[simp] theorem State.setIe_ie (s : State) (v : Bool) :
    (s.setIe v).ie = v := rfl

@[simp] theorem State.setIe_fg (s : State) (v : Bool) :
    (s.setIe v).fg = s.fg := rfl

@[simp] theorem State.setIe_port (s : State) (v : Bool) :
    (s.setIe v).port = s.port := rfl

@[simp] theorem State.setIe_result (s : State) (v : Bool) :
    (s.setIe v).result = s.result := rfl

@[simp] theorem State.setIe_fnResult (s : State) (v : Bool) :
    (s.setIe v).fnResult = s.fnResult := rfl

@[simp] theorem State.setIe_samples (s : State) (v : Bool) :
    (s.setIe v).samples = s.samples := rfl

@[simp] theorem State.setIe_mem (s : State) (v : Bool) :
    (s.setIe v).mem = s.mem := rfl

@[simp] theorem State.setIe_sensors (s : State) (v : Bool) :
    (s.setIe v).sensors = s.sensors := rfl

@[simp] theorem State.setIe_trace (s : State) (v : Bool) :
    (s.setIe v).trace = s.trace := rfl

@[simp] theorem State.setIe_loaded (s : State) (v : Bool) :
    (s.setIe v).loaded = s.loaded := rfl

@[simp] theorem State.setIe_moves (s : State) (v : Bool) :
    (s.setIe v).moves = s.moves := rfl

@[simp] theorem State.setIe_answers (s : State) (v : Bool) :
    (s.setIe v).answers = s.answers := rfl

@[simp] theorem State.setIe_clock (s : State) (v : Bool) :
    (s.setIe v).clock = s.clock := rfl

@[simp] theorem State.setIe_patience (s : State) (v : Bool) :
    (s.setIe v).patience = s.patience := rfl

/-! `setFg` -/

@[simp] theorem State.setFg_cfg (s : State) (x : Fg) :
    (s.setFg x).cfg = s.cfg := rfl

@[simp] theorem State.setFg_slots (s : State) (x : Fg) :
    (s.setFg x).slots = s.slots := rfl

@[simp] theorem State.setFg_vecs (s : State) (x : Fg) :
    (s.setFg x).vecs = s.vecs := rfl

@[simp] theorem State.setFg_pending (s : State) (x : Fg) :
    (s.setFg x).pending = s.pending := rfl

@[simp] theorem State.setFg_ie (s : State) (x : Fg) :
    (s.setFg x).ie = s.ie := rfl

@[simp] theorem State.setFg_fg (s : State) (x : Fg) :
    (s.setFg x).fg = x := rfl

@[simp] theorem State.setFg_port (s : State) (x : Fg) :
    (s.setFg x).port = s.port := rfl

@[simp] theorem State.setFg_result (s : State) (x : Fg) :
    (s.setFg x).result = s.result := rfl

@[simp] theorem State.setFg_fnResult (s : State) (x : Fg) :
    (s.setFg x).fnResult = s.fnResult := rfl

@[simp] theorem State.setFg_samples (s : State) (x : Fg) :
    (s.setFg x).samples = s.samples := rfl

@[simp] theorem State.setFg_mem (s : State) (x : Fg) :
    (s.setFg x).mem = s.mem := rfl

@[simp] theorem State.setFg_sensors (s : State) (x : Fg) :
    (s.setFg x).sensors = s.sensors := rfl

@[simp] theorem State.setFg_trace (s : State) (x : Fg) :
    (s.setFg x).trace = s.trace := rfl

@[simp] theorem State.setFg_loaded (s : State) (x : Fg) :
    (s.setFg x).loaded = s.loaded := rfl

@[simp] theorem State.setFg_moves (s : State) (x : Fg) :
    (s.setFg x).moves = s.moves := rfl

@[simp] theorem State.setFg_answers (s : State) (x : Fg) :
    (s.setFg x).answers = s.answers := rfl

@[simp] theorem State.setFg_clock (s : State) (x : Fg) :
    (s.setFg x).clock = s.clock := rfl

@[simp] theorem State.setFg_patience (s : State) (x : Fg) :
    (s.setFg x).patience = s.patience := rfl

/-! `goto` -/

@[simp] theorem State.goto_cfg (s : State) (i : Instr) (p : Phase) :
    (s.goto i p).cfg = s.cfg := rfl

@[simp] theorem State.goto_slots (s : State) (i : Instr) (p : Phase) :
    (s.goto i p).slots = s.slots := rfl

@[simp] theorem State.goto_vecs (s : State) (i : Instr) (p : Phase) :
    (s.goto i p).vecs = s.vecs := rfl

@[simp] theorem State.goto_pending (s : State) (i : Instr) (p : Phase) :
    (s.goto i p).pending = s.pending := rfl

@[simp] theorem State.goto_ie (s : State) (i : Instr) (p : Phase) :
    (s.goto i p).ie = s.ie := rfl

@[simp] theorem State.goto_fg (s : State) (i : Instr) (p : Phase) :
    (s.goto i p).fg = { s.fg with op := some i, ph := p } := rfl

@[simp] theorem State.goto_port (s : State) (i : Instr) (p : Phase) :
    (s.goto i p).port = s.port := rfl

@[simp] theorem State.goto_result (s : State) (i : Instr) (p : Phase) :
    (s.goto i p).result = s.result := rfl

@[simp] theorem State.goto_fnResult (s : State) (i : Instr) (p : Phase) :
    (s.goto i p).fnResult = s.fnResult := rfl

@[simp] theorem State.goto_samples (s : State) (i : Instr) (p : Phase) :
    (s.goto i p).samples = s.samples := rfl

@[simp] theorem State.goto_mem (s : State) (i : Instr) (p : Phase) :
    (s.goto i p).mem = s.mem := rfl

@[simp] theorem State.goto_sensors (s : State) (i : Instr) (p : Phase) :
    (s.goto i p).sensors = s.sensors := rfl

@[simp] theorem State.goto_trace (s : State) (i : Instr) (p : Phase) :
    (s.goto i p).trace = s.trace := rfl

@[simp] theorem State.goto_loaded (s : State) (i : Instr) (p : Phase) :
    (s.goto i p).loaded = s.loaded := rfl

@[simp] theorem State.goto_moves (s : State) (i : Instr) (p : Phase) :
    (s.goto i p).moves = s.moves := rfl

@[simp] theorem State.goto_answers (s : State) (i : Instr) (p : Phase) :
    (s.goto i p).answers = s.answers := rfl

@[simp] theorem State.goto_clock (s : State) (i : Instr) (p : Phase) :
    (s.goto i p).clock = s.clock := rfl

@[simp] theorem State.goto_patience (s : State) (i : Instr) (p : Phase) :
    (s.goto i p).patience = s.patience := rfl

/-! `ret` -/

@[simp] theorem State.ret_cfg (s : State) (r : Result) :
    (s.ret r).cfg = s.cfg := rfl

@[simp] theorem State.ret_slots (s : State) (r : Result) :
    (s.ret r).slots = s.slots := rfl

@[simp] theorem State.ret_vecs (s : State) (r : Result) :
    (s.ret r).vecs = s.vecs := rfl

@[simp] theorem State.ret_pending (s : State) (r : Result) :
    (s.ret r).pending = s.pending := rfl

@[simp] theorem State.ret_ie (s : State) (r : Result) :
    (s.ret r).ie = s.ie := rfl

@[simp] theorem State.ret_fg (s : State) (r : Result) :
    (s.ret r).fg = Fg.idle := rfl

@[simp] theorem State.ret_port (s : State) (r : Result) :
    (s.ret r).port = s.port := rfl

@[simp] theorem State.ret_result (s : State) (r : Result) :
    (s.ret r).result = some r := rfl

@[simp] theorem State.ret_fnResult (s : State) (r : Result) :
    (s.ret r).fnResult = s.fnResult := rfl

@[simp] theorem State.ret_samples (s : State) (r : Result) :
    (s.ret r).samples = s.samples := rfl

@[simp] theorem State.ret_mem (s : State) (r : Result) :
    (s.ret r).mem = s.mem := rfl

@[simp] theorem State.ret_sensors (s : State) (r : Result) :
    (s.ret r).sensors = s.sensors := rfl

@[simp] theorem State.ret_trace (s : State) (r : Result) :
    (s.ret r).trace = s.trace := rfl

@[simp] theorem State.ret_loaded (s : State) (r : Result) :
    (s.ret r).loaded = s.loaded := rfl

@[simp] theorem State.ret_moves (s : State) (r : Result) :
    (s.ret r).moves = s.moves := rfl

@[simp] theorem State.ret_answers (s : State) (r : Result) :
    (s.ret r).answers = s.answers := rfl

@[simp] theorem State.ret_clock (s : State) (r : Result) :
    (s.ret r).clock = s.clock := rfl

@[simp] theorem State.ret_patience (s : State) (r : Result) :
    (s.ret r).patience = s.patience := rfl

/-! `raiseError` -/

@[simp] theorem State.raiseError_cfg (s : State) (st : Status) :
    (s.raiseError st).cfg = s.cfg := rfl

@[simp] theorem State.raiseError_slots (s : State) (st : Status) :
    (s.raiseError st).slots = s.slots := rfl

@[simp] theorem State.raiseError_vecs (s : State) (st : Status) :
    (s.raiseError st).vecs = s.vecs := rfl

@[simp] theorem State.raiseError_pending (s : State) (st : Status) :
    (s.raiseError st).pending = s.pending := rfl

@[simp] theorem State.raiseError_ie (s : State) (st : Status) :
    (s.raiseError st).ie = s.ie := rfl

@[simp] theorem State.raiseError_fg (s : State) (st : Status) :
    (s.raiseError st).fg = Fg.idle := rfl

@[simp] theorem State.raiseError_port (s : State) (st : Status) :
    (s.raiseError st).port = s.port := rfl

@[simp] theorem State.raiseError_result (s : State) (st : Status) :
    (s.raiseError st).result = some { st := st } := rfl

@[simp] theorem State.raiseError_fnResult (s : State) (st : Status) :
    (s.raiseError st).fnResult = s.fnResult := rfl

@[simp] theorem State.raiseError_samples (s : State) (st : Status) :
    (s.raiseError st).samples = s.samples := rfl

@[simp] theorem State.raiseError_mem (s : State) (st : Status) :
    (s.raiseError st).mem = s.mem := rfl

@[simp] theorem State.raiseError_sensors (s : State) (st : Status) :
    (s.raiseError st).sensors = s.sensors := rfl

@[simp] theorem State.raiseError_trace (s : State) (st : Status) :
    (s.raiseError st).trace = s.trace := rfl

@[simp] theorem State.raiseError_loaded (s : State) (st : Status) :
    (s.raiseError st).loaded = s.loaded := rfl

@[simp] theorem State.raiseError_moves (s : State) (st : Status) :
    (s.raiseError st).moves = s.moves := rfl

@[simp] theorem State.raiseError_answers (s : State) (st : Status) :
    (s.raiseError st).answers = s.answers := rfl

@[simp] theorem State.raiseError_clock (s : State) (st : Status) :
    (s.raiseError st).clock = s.clock := rfl

@[simp] theorem State.raiseError_patience (s : State) (st : Status) :
    (s.raiseError st).patience = s.patience := rfl

/-! `takePort` -/

@[simp] theorem State.takePort_cfg (s : State) :
    s.takePort.cfg = s.cfg := rfl

@[simp] theorem State.takePort_slots (s : State) :
    s.takePort.slots = s.slots := rfl

@[simp] theorem State.takePort_vecs (s : State) :
    s.takePort.vecs = s.vecs := rfl

@[simp] theorem State.takePort_pending (s : State) :
    s.takePort.pending = s.pending := rfl

@[simp] theorem State.takePort_ie (s : State) :
    s.takePort.ie = s.ie := rfl

@[simp] theorem State.takePort_fg (s : State) :
    s.takePort.fg = s.fg := rfl

@[simp] theorem State.takePort_port (s : State) :
    s.takePort.port = none := rfl

@[simp] theorem State.takePort_result (s : State) :
    s.takePort.result = none := rfl

@[simp] theorem State.takePort_fnResult (s : State) :
    s.takePort.fnResult = s.fnResult := rfl

@[simp] theorem State.takePort_samples (s : State) :
    s.takePort.samples = s.samples := rfl

@[simp] theorem State.takePort_mem (s : State) :
    s.takePort.mem = s.mem := rfl

@[simp] theorem State.takePort_sensors (s : State) :
    s.takePort.sensors = s.sensors := rfl

@[simp] theorem State.takePort_trace (s : State) :
    s.takePort.trace = s.trace := rfl

@[simp] theorem State.takePort_loaded (s : State) :
    s.takePort.loaded = s.loaded := rfl

@[simp] theorem State.takePort_moves (s : State) :
    s.takePort.moves = s.moves := rfl

@[simp] theorem State.takePort_answers (s : State) :
    s.takePort.answers = s.answers := rfl

@[simp] theorem State.takePort_clock (s : State) :
    s.takePort.clock = s.clock := rfl

@[simp] theorem State.takePort_patience (s : State) :
    s.takePort.patience = s.patience := rfl

/-! `setClaimed` -/

@[simp] theorem State.setClaimed_cfg (s : State) (i : Nat) (v : Bool) :
    (s.setClaimed i v).cfg = s.cfg := rfl

@[simp] theorem State.setClaimed_slots (s : State) (i : Nat) (v : Bool) :
    (s.setClaimed i v).slots = s.slots.set i { s.slot i with claimed := v } := rfl

@[simp] theorem State.setClaimed_vecs (s : State) (i : Nat) (v : Bool) :
    (s.setClaimed i v).vecs = s.vecs := rfl

@[simp] theorem State.setClaimed_pending (s : State) (i : Nat) (v : Bool) :
    (s.setClaimed i v).pending = s.pending := rfl

@[simp] theorem State.setClaimed_ie (s : State) (i : Nat) (v : Bool) :
    (s.setClaimed i v).ie = s.ie := rfl

@[simp] theorem State.setClaimed_fg (s : State) (i : Nat) (v : Bool) :
    (s.setClaimed i v).fg = s.fg := rfl

@[simp] theorem State.setClaimed_port (s : State) (i : Nat) (v : Bool) :
    (s.setClaimed i v).port = s.port := rfl

@[simp] theorem State.setClaimed_result (s : State) (i : Nat) (v : Bool) :
    (s.setClaimed i v).result = s.result := rfl

@[simp] theorem State.setClaimed_fnResult (s : State) (i : Nat) (v : Bool) :
    (s.setClaimed i v).fnResult = s.fnResult := rfl

@[simp] theorem State.setClaimed_samples (s : State) (i : Nat) (v : Bool) :
    (s.setClaimed i v).samples = s.samples := rfl

@[simp] theorem State.setClaimed_mem (s : State) (i : Nat) (v : Bool) :
    (s.setClaimed i v).mem = s.mem := rfl

@[simp] theorem State.setClaimed_sensors (s : State) (i : Nat) (v : Bool) :
    (s.setClaimed i v).sensors = s.sensors := rfl

@[simp] theorem State.setClaimed_trace (s : State) (i : Nat) (v : Bool) :
    (s.setClaimed i v).trace = s.trace := rfl

@[simp] theorem State.setClaimed_loaded (s : State) (i : Nat) (v : Bool) :
    (s.setClaimed i v).loaded = s.loaded := rfl

@[simp] theorem State.setClaimed_moves (s : State) (i : Nat) (v : Bool) :
    (s.setClaimed i v).moves = s.moves := rfl

@[simp] theorem State.setClaimed_answers (s : State) (i : Nat) (v : Bool) :
    (s.setClaimed i v).answers = s.answers := rfl

@[simp] theorem State.setClaimed_clock (s : State) (i : Nat) (v : Bool) :
    (s.setClaimed i v).clock = s.clock := rfl

@[simp] theorem State.setClaimed_patience (s : State) (i : Nat) (v : Bool) :
    (s.setClaimed i v).patience = s.patience := rfl

/-! `setReady` -/

@[simp] theorem State.setReady_cfg (s : State) (i : Nat) (v : Bool) :
    (s.setReady i v).cfg = s.cfg := rfl

@[simp] theorem State.setReady_slots (s : State) (i : Nat) (v : Bool) :
    (s.setReady i v).slots = s.slots.set i { s.slot i with ready := v } := rfl

@[simp] theorem State.setReady_vecs (s : State) (i : Nat) (v : Bool) :
    (s.setReady i v).vecs = s.vecs := rfl

@[simp] theorem State.setReady_pending (s : State) (i : Nat) (v : Bool) :
    (s.setReady i v).pending = s.pending := rfl

@[simp] theorem State.setReady_ie (s : State) (i : Nat) (v : Bool) :
    (s.setReady i v).ie = s.ie := rfl

@[simp] theorem State.setReady_fg (s : State) (i : Nat) (v : Bool) :
    (s.setReady i v).fg = s.fg := rfl

@[simp] theorem State.setReady_port (s : State) (i : Nat) (v : Bool) :
    (s.setReady i v).port = s.port := rfl

@[simp] theorem State.setReady_result (s : State) (i : Nat) (v : Bool) :
    (s.setReady i v).result = s.result := rfl

@[simp] theorem State.setReady_fnResult (s : State) (i : Nat) (v : Bool) :
    (s.setReady i v).fnResult = s.fnResult := rfl

@[simp] theorem State.setReady_samples (s : State) (i : Nat) (v : Bool) :
    (s.setReady i v).samples = s.samples := rfl

@[simp] theorem State.setReady_mem (s : State) (i : Nat) (v : Bool) :
    (s.setReady i v).mem = s.mem := rfl

@[simp] theorem State.setReady_sensors (s : State) (i : Nat) (v : Bool) :
    (s.setReady i v).sensors = s.sensors := rfl

@[simp] theorem State.setReady_trace (s : State) (i : Nat) (v : Bool) :
    (s.setReady i v).trace = s.trace := rfl

@[simp] theorem State.setReady_loaded (s : State) (i : Nat) (v : Bool) :
    (s.setReady i v).loaded = s.loaded := rfl

@[simp] theorem State.setReady_moves (s : State) (i : Nat) (v : Bool) :
    (s.setReady i v).moves = s.moves := rfl

@[simp] theorem State.setReady_answers (s : State) (i : Nat) (v : Bool) :
    (s.setReady i v).answers = s.answers := rfl

@[simp] theorem State.setReady_clock (s : State) (i : Nat) (v : Bool) :
    (s.setReady i v).clock = s.clock := rfl

@[simp] theorem State.setReady_patience (s : State) (i : Nat) (v : Bool) :
    (s.setReady i v).patience = s.patience := rfl

/-! `setAttached` -/

@[simp] theorem State.setAttached_cfg (s : State) (i : Nat) (v : Bool) :
    (s.setAttached i v).cfg = s.cfg := rfl

@[simp] theorem State.setAttached_slots (s : State) (i : Nat) (v : Bool) :
    (s.setAttached i v).slots = s.slots.set i { s.slot i with attached := v } := rfl

@[simp] theorem State.setAttached_vecs (s : State) (i : Nat) (v : Bool) :
    (s.setAttached i v).vecs = s.vecs := rfl

@[simp] theorem State.setAttached_pending (s : State) (i : Nat) (v : Bool) :
    (s.setAttached i v).pending = s.pending := rfl

@[simp] theorem State.setAttached_ie (s : State) (i : Nat) (v : Bool) :
    (s.setAttached i v).ie = s.ie := rfl

@[simp] theorem State.setAttached_fg (s : State) (i : Nat) (v : Bool) :
    (s.setAttached i v).fg = s.fg := rfl

@[simp] theorem State.setAttached_port (s : State) (i : Nat) (v : Bool) :
    (s.setAttached i v).port = s.port := rfl

@[simp] theorem State.setAttached_result (s : State) (i : Nat) (v : Bool) :
    (s.setAttached i v).result = s.result := rfl

@[simp] theorem State.setAttached_fnResult (s : State) (i : Nat) (v : Bool) :
    (s.setAttached i v).fnResult = s.fnResult := rfl

@[simp] theorem State.setAttached_samples (s : State) (i : Nat) (v : Bool) :
    (s.setAttached i v).samples = s.samples := rfl

@[simp] theorem State.setAttached_mem (s : State) (i : Nat) (v : Bool) :
    (s.setAttached i v).mem = s.mem := rfl

@[simp] theorem State.setAttached_sensors (s : State) (i : Nat) (v : Bool) :
    (s.setAttached i v).sensors = s.sensors := rfl

@[simp] theorem State.setAttached_trace (s : State) (i : Nat) (v : Bool) :
    (s.setAttached i v).trace = s.trace := rfl

@[simp] theorem State.setAttached_loaded (s : State) (i : Nat) (v : Bool) :
    (s.setAttached i v).loaded = s.loaded := rfl

@[simp] theorem State.setAttached_moves (s : State) (i : Nat) (v : Bool) :
    (s.setAttached i v).moves = s.moves := rfl

@[simp] theorem State.setAttached_answers (s : State) (i : Nat) (v : Bool) :
    (s.setAttached i v).answers = s.answers := rfl

@[simp] theorem State.setAttached_clock (s : State) (i : Nat) (v : Bool) :
    (s.setAttached i v).clock = s.clock := rfl

@[simp] theorem State.setAttached_patience (s : State) (i : Nat) (v : Bool) :
    (s.setAttached i v).patience = s.patience := rfl

/-! `attach` -/

@[simp] theorem State.attach_cfg (s : State) (i : Nat) (p : Pin) :
    (s.attach i p).cfg = s.cfg := rfl

@[simp] theorem State.attach_slots (s : State) (i : Nat) (p : Pin) :
    (s.attach i p).slots = s.slots.set i { s.slot i with pin := p, attached := true } := rfl

@[simp] theorem State.attach_vecs (s : State) (i : Nat) (p : Pin) :
    (s.attach i p).vecs = s.vecs := rfl

@[simp] theorem State.attach_pending (s : State) (i : Nat) (p : Pin) :
    (s.attach i p).pending = s.pending := rfl

@[simp] theorem State.attach_ie (s : State) (i : Nat) (p : Pin) :
    (s.attach i p).ie = s.ie := rfl

@[simp] theorem State.attach_fg (s : State) (i : Nat) (p : Pin) :
    (s.attach i p).fg = s.fg := rfl

@[simp] theorem State.attach_port (s : State) (i : Nat) (p : Pin) :
    (s.attach i p).port = s.port := rfl

@[simp] theorem State.attach_result (s : State) (i : Nat) (p : Pin) :
    (s.attach i p).result = s.result := rfl

@[simp] theorem State.attach_fnResult (s : State) (i : Nat) (p : Pin) :
    (s.attach i p).fnResult = s.fnResult := rfl

@[simp] theorem State.attach_samples (s : State) (i : Nat) (p : Pin) :
    (s.attach i p).samples = s.samples := rfl

@[simp] theorem State.attach_mem (s : State) (i : Nat) (p : Pin) :
    (s.attach i p).mem = s.mem := rfl

@[simp] theorem State.attach_sensors (s : State) (i : Nat) (p : Pin) :
    (s.attach i p).sensors = s.sensors := rfl

@[simp] theorem State.attach_trace (s : State) (i : Nat) (p : Pin) :
    (s.attach i p).trace = s.trace := rfl

@[simp] theorem State.attach_loaded (s : State) (i : Nat) (p : Pin) :
    (s.attach i p).loaded = s.loaded := rfl

@[simp] theorem State.attach_moves (s : State) (i : Nat) (p : Pin) :
    (s.attach i p).moves = s.moves := rfl

@[simp] theorem State.attach_answers (s : State) (i : Nat) (p : Pin) :
    (s.attach i p).answers = s.answers := rfl

@[simp] theorem State.attach_clock (s : State) (i : Nat) (p : Pin) :
    (s.attach i p).clock = s.clock := rfl

@[simp] theorem State.attach_patience (s : State) (i : Nat) (p : Pin) :
    (s.attach i p).patience = s.patience := rfl

/-! `claim` -/

@[simp] theorem State.claim_cfg (s : State) (i : Nat) (b : Binding) (r : StorageRef) :
    (s.claim i b r).cfg = s.cfg := rfl

@[simp] theorem State.claim_slots (s : State) (i : Nat) (b : Binding) (r : StorageRef) :
    (s.claim i b r).slots = s.slots.set i { s.slot i with
      claimed := true, busAddress := b.busAddress, busSpeed := b.busSpeed, rapRead := b.tp, rapWrite := b.tp,
      sampleRef := r, ready := false } := rfl

@[simp] theorem State.claim_vecs (s : State) (i : Nat) (b : Binding) (r : StorageRef) :
    (s.claim i b r).vecs = s.vecs := rfl

@[simp] theorem State.claim_pending (s : State) (i : Nat) (b : Binding) (r : StorageRef) :
    (s.claim i b r).pending = s.pending := rfl

@[simp] theorem State.claim_ie (s : State) (i : Nat) (b : Binding) (r : StorageRef) :
    (s.claim i b r).ie = s.ie := rfl

@[simp] theorem State.claim_fg (s : State) (i : Nat) (b : Binding) (r : StorageRef) :
    (s.claim i b r).fg = s.fg := rfl

@[simp] theorem State.claim_port (s : State) (i : Nat) (b : Binding) (r : StorageRef) :
    (s.claim i b r).port = s.port := rfl

@[simp] theorem State.claim_result (s : State) (i : Nat) (b : Binding) (r : StorageRef) :
    (s.claim i b r).result = s.result := rfl

@[simp] theorem State.claim_fnResult (s : State) (i : Nat) (b : Binding) (r : StorageRef) :
    (s.claim i b r).fnResult = s.fnResult := rfl

@[simp] theorem State.claim_samples (s : State) (i : Nat) (b : Binding) (r : StorageRef) :
    (s.claim i b r).samples = s.samples := rfl

@[simp] theorem State.claim_mem (s : State) (i : Nat) (b : Binding) (r : StorageRef) :
    (s.claim i b r).mem = s.mem := rfl

@[simp] theorem State.claim_sensors (s : State) (i : Nat) (b : Binding) (r : StorageRef) :
    (s.claim i b r).sensors = s.sensors := rfl

@[simp] theorem State.claim_trace (s : State) (i : Nat) (b : Binding) (r : StorageRef) :
    (s.claim i b r).trace = s.trace := rfl

@[simp] theorem State.claim_loaded (s : State) (i : Nat) (b : Binding) (r : StorageRef) :
    (s.claim i b r).loaded = s.loaded := rfl

@[simp] theorem State.claim_moves (s : State) (i : Nat) (b : Binding) (r : StorageRef) :
    (s.claim i b r).moves = s.moves := rfl

@[simp] theorem State.claim_answers (s : State) (i : Nat) (b : Binding) (r : StorageRef) :
    (s.claim i b r).answers = s.answers := rfl

@[simp] theorem State.claim_clock (s : State) (i : Nat) (b : Binding) (r : StorageRef) :
    (s.claim i b r).clock = s.clock := rfl

@[simp] theorem State.claim_patience (s : State) (i : Nat) (b : Binding) (r : StorageRef) :
    (s.claim i b r).patience = s.patience := rfl

/-! `release` -/

@[simp] theorem State.release_cfg (s : State) (i : Nat) :
    (s.release i).cfg = s.cfg := rfl

@[simp] theorem State.release_slots (s : State) (i : Nat) :
    (s.release i).slots = s.slots.set i { s.slot i with claimed := false } := rfl

@[simp] theorem State.release_vecs (s : State) (i : Nat) :
    (s.release i).vecs = s.vecs := rfl

@[simp] theorem State.release_pending (s : State) (i : Nat) :
    (s.release i).pending = s.pending := rfl

@[simp] theorem State.release_ie (s : State) (i : Nat) :
    (s.release i).ie = s.ie := rfl

@[simp] theorem State.release_fg (s : State) (i : Nat) :
    (s.release i).fg = s.fg := rfl

@[simp] theorem State.release_port (s : State) (i : Nat) :
    (s.release i).port = s.port := rfl

@[simp] theorem State.release_result (s : State) (i : Nat) :
    (s.release i).result = s.result := rfl

@[simp] theorem State.release_fnResult (s : State) (i : Nat) :
    (s.release i).fnResult = s.fnResult := rfl

@[simp] theorem State.release_samples (s : State) (i : Nat) :
    (s.release i).samples = s.samples := rfl

@[simp] theorem State.release_mem (s : State) (i : Nat) :
    (s.release i).mem = s.mem := rfl

@[simp] theorem State.release_sensors (s : State) (i : Nat) :
    (s.release i).sensors = s.sensors := rfl

@[simp] theorem State.release_trace (s : State) (i : Nat) :
    (s.release i).trace = s.trace := rfl

@[simp] theorem State.release_loaded (s : State) (i : Nat) :
    (s.release i).loaded = s.loaded := rfl

@[simp] theorem State.release_moves (s : State) (i : Nat) :
    (s.release i).moves = s.moves := rfl

@[simp] theorem State.release_answers (s : State) (i : Nat) :
    (s.release i).answers = s.answers := rfl

@[simp] theorem State.release_clock (s : State) (i : Nat) :
    (s.release i).clock = s.clock := rfl

@[simp] theorem State.release_patience (s : State) (i : Nat) :
    (s.release i).patience = s.patience := rfl

/-! `latchFault` -/

@[simp] theorem State.latchFault_cfg (s : State) (i : Nat) :
    (s.latchFault i).cfg = s.cfg := rfl

@[simp] theorem State.latchFault_slots (s : State) (i : Nat) :
    (s.latchFault i).slots = s.slots := rfl

@[simp] theorem State.latchFault_vecs (s : State) (i : Nat) :
    (s.latchFault i).vecs = s.vecs.set i { s.vec i with fault := true } := rfl

@[simp] theorem State.latchFault_pending (s : State) (i : Nat) :
    (s.latchFault i).pending = s.pending := rfl

@[simp] theorem State.latchFault_ie (s : State) (i : Nat) :
    (s.latchFault i).ie = s.ie := rfl

@[simp] theorem State.latchFault_fg (s : State) (i : Nat) :
    (s.latchFault i).fg = s.fg := rfl

@[simp] theorem State.latchFault_port (s : State) (i : Nat) :
    (s.latchFault i).port = s.port := rfl

@[simp] theorem State.latchFault_result (s : State) (i : Nat) :
    (s.latchFault i).result = s.result := rfl

@[simp] theorem State.latchFault_fnResult (s : State) (i : Nat) :
    (s.latchFault i).fnResult = s.fnResult := rfl

@[simp] theorem State.latchFault_samples (s : State) (i : Nat) :
    (s.latchFault i).samples = s.samples := rfl

@[simp] theorem State.latchFault_mem (s : State) (i : Nat) :
    (s.latchFault i).mem = s.mem := rfl

@[simp] theorem State.latchFault_sensors (s : State) (i : Nat) :
    (s.latchFault i).sensors = s.sensors := rfl

@[simp] theorem State.latchFault_trace (s : State) (i : Nat) :
    (s.latchFault i).trace = s.trace := rfl

@[simp] theorem State.latchFault_loaded (s : State) (i : Nat) :
    (s.latchFault i).loaded = s.loaded := rfl

@[simp] theorem State.latchFault_moves (s : State) (i : Nat) :
    (s.latchFault i).moves = s.moves := rfl

@[simp] theorem State.latchFault_answers (s : State) (i : Nat) :
    (s.latchFault i).answers = s.answers := rfl

@[simp] theorem State.latchFault_clock (s : State) (i : Nat) :
    (s.latchFault i).clock = s.clock := rfl

@[simp] theorem State.latchFault_patience (s : State) (i : Nat) :
    (s.latchFault i).patience = s.patience := rfl

/-! `vecGoto` -/

@[simp] theorem State.vecGoto_cfg (s : State) (i : Nat) (p : VecPhase) :
    (s.vecGoto i p).cfg = s.cfg := rfl

@[simp] theorem State.vecGoto_slots (s : State) (i : Nat) (p : VecPhase) :
    (s.vecGoto i p).slots = s.slots := rfl

@[simp] theorem State.vecGoto_vecs (s : State) (i : Nat) (p : VecPhase) :
    (s.vecGoto i p).vecs = s.vecs.set i { s.vec i with ph := p } := rfl

@[simp] theorem State.vecGoto_pending (s : State) (i : Nat) (p : VecPhase) :
    (s.vecGoto i p).pending = s.pending := rfl

@[simp] theorem State.vecGoto_ie (s : State) (i : Nat) (p : VecPhase) :
    (s.vecGoto i p).ie = s.ie := rfl

@[simp] theorem State.vecGoto_fg (s : State) (i : Nat) (p : VecPhase) :
    (s.vecGoto i p).fg = s.fg := rfl

@[simp] theorem State.vecGoto_port (s : State) (i : Nat) (p : VecPhase) :
    (s.vecGoto i p).port = s.port := rfl

@[simp] theorem State.vecGoto_result (s : State) (i : Nat) (p : VecPhase) :
    (s.vecGoto i p).result = s.result := rfl

@[simp] theorem State.vecGoto_fnResult (s : State) (i : Nat) (p : VecPhase) :
    (s.vecGoto i p).fnResult = s.fnResult := rfl

@[simp] theorem State.vecGoto_samples (s : State) (i : Nat) (p : VecPhase) :
    (s.vecGoto i p).samples = s.samples := rfl

@[simp] theorem State.vecGoto_mem (s : State) (i : Nat) (p : VecPhase) :
    (s.vecGoto i p).mem = s.mem := rfl

@[simp] theorem State.vecGoto_sensors (s : State) (i : Nat) (p : VecPhase) :
    (s.vecGoto i p).sensors = s.sensors := rfl

@[simp] theorem State.vecGoto_trace (s : State) (i : Nat) (p : VecPhase) :
    (s.vecGoto i p).trace = s.trace := rfl

@[simp] theorem State.vecGoto_loaded (s : State) (i : Nat) (p : VecPhase) :
    (s.vecGoto i p).loaded = s.loaded := rfl

@[simp] theorem State.vecGoto_moves (s : State) (i : Nat) (p : VecPhase) :
    (s.vecGoto i p).moves = s.moves := rfl

@[simp] theorem State.vecGoto_answers (s : State) (i : Nat) (p : VecPhase) :
    (s.vecGoto i p).answers = s.answers := rfl

@[simp] theorem State.vecGoto_clock (s : State) (i : Nat) (p : VecPhase) :
    (s.vecGoto i p).clock = s.clock := rfl

@[simp] theorem State.vecGoto_patience (s : State) (i : Nat) (p : VecPhase) :
    (s.vecGoto i p).patience = s.patience := rfl

/-! `returnVector` -/

@[simp] theorem State.returnVector_cfg (s : State) (i : Nat) :
    (s.returnVector i).cfg = s.cfg := rfl

@[simp] theorem State.returnVector_slots (s : State) (i : Nat) :
    (s.returnVector i).slots = s.slots := rfl

@[simp] theorem State.returnVector_vecs (s : State) (i : Nat) :
    (s.returnVector i).vecs = s.vecs.set i { s.vec i with ph := .idle } := rfl

@[simp] theorem State.returnVector_pending (s : State) (i : Nat) :
    (s.returnVector i).pending = s.pending := rfl

@[simp] theorem State.returnVector_ie (s : State) (i : Nat) :
    (s.returnVector i).ie = s.ie := rfl

@[simp] theorem State.returnVector_fg (s : State) (i : Nat) :
    (s.returnVector i).fg = s.fg := rfl

@[simp] theorem State.returnVector_port (s : State) (i : Nat) :
    (s.returnVector i).port = s.port := rfl

@[simp] theorem State.returnVector_result (s : State) (i : Nat) :
    (s.returnVector i).result = s.result := rfl

@[simp] theorem State.returnVector_fnResult (s : State) (i : Nat) :
    (s.returnVector i).fnResult = s.fnResult := rfl

@[simp] theorem State.returnVector_samples (s : State) (i : Nat) :
    (s.returnVector i).samples = s.samples := rfl

@[simp] theorem State.returnVector_mem (s : State) (i : Nat) :
    (s.returnVector i).mem = s.mem := rfl

@[simp] theorem State.returnVector_sensors (s : State) (i : Nat) :
    (s.returnVector i).sensors = s.sensors := rfl

@[simp] theorem State.returnVector_trace (s : State) (i : Nat) :
    (s.returnVector i).trace = s.trace := rfl

@[simp] theorem State.returnVector_loaded (s : State) (i : Nat) :
    (s.returnVector i).loaded = s.loaded := rfl

@[simp] theorem State.returnVector_moves (s : State) (i : Nat) :
    (s.returnVector i).moves = s.moves := rfl

@[simp] theorem State.returnVector_answers (s : State) (i : Nat) :
    (s.returnVector i).answers = s.answers := rfl

@[simp] theorem State.returnVector_clock (s : State) (i : Nat) :
    (s.returnVector i).clock = s.clock := rfl

@[simp] theorem State.returnVector_patience (s : State) (i : Nat) :
    (s.returnVector i).patience = s.patience := rfl

/-! `vecFail` -/

@[simp] theorem State.vecFail_cfg (s : State) (i : Nat) :
    (s.vecFail i).cfg = s.cfg := rfl

@[simp] theorem State.vecFail_slots (s : State) (i : Nat) :
    (s.vecFail i).slots = s.slots := rfl

@[simp] theorem State.vecFail_pending (s : State) (i : Nat) :
    (s.vecFail i).pending = s.pending := rfl

@[simp] theorem State.vecFail_ie (s : State) (i : Nat) :
    (s.vecFail i).ie = s.ie := rfl

@[simp] theorem State.vecFail_fg (s : State) (i : Nat) :
    (s.vecFail i).fg = s.fg := rfl

@[simp] theorem State.vecFail_port (s : State) (i : Nat) :
    (s.vecFail i).port = s.port := rfl

@[simp] theorem State.vecFail_result (s : State) (i : Nat) :
    (s.vecFail i).result = s.result := rfl

@[simp] theorem State.vecFail_fnResult (s : State) (i : Nat) :
    (s.vecFail i).fnResult = s.fnResult := rfl

@[simp] theorem State.vecFail_samples (s : State) (i : Nat) :
    (s.vecFail i).samples = s.samples := rfl

@[simp] theorem State.vecFail_mem (s : State) (i : Nat) :
    (s.vecFail i).mem = s.mem := rfl

@[simp] theorem State.vecFail_sensors (s : State) (i : Nat) :
    (s.vecFail i).sensors = s.sensors := rfl

@[simp] theorem State.vecFail_trace (s : State) (i : Nat) :
    (s.vecFail i).trace = s.trace := rfl

@[simp] theorem State.vecFail_loaded (s : State) (i : Nat) :
    (s.vecFail i).loaded = s.loaded := rfl

@[simp] theorem State.vecFail_moves (s : State) (i : Nat) :
    (s.vecFail i).moves = s.moves := rfl

@[simp] theorem State.vecFail_answers (s : State) (i : Nat) :
    (s.vecFail i).answers = s.answers := rfl

@[simp] theorem State.vecFail_clock (s : State) (i : Nat) :
    (s.vecFail i).clock = s.clock := rfl

@[simp] theorem State.vecFail_patience (s : State) (i : Nat) :
    (s.vecFail i).patience = s.patience := rfl

/-! `endFrame` -/

@[simp] theorem State.endFrame_cfg (s : State) (b : Binding) :
    (s.endFrame b).cfg = s.cfg := rfl

@[simp] theorem State.endFrame_slots (s : State) (b : Binding) :
    (s.endFrame b).slots = s.slots := rfl

@[simp] theorem State.endFrame_vecs (s : State) (b : Binding) :
    (s.endFrame b).vecs = s.vecs := rfl

@[simp] theorem State.endFrame_pending (s : State) (b : Binding) :
    (s.endFrame b).pending = s.pending := rfl

@[simp] theorem State.endFrame_ie (s : State) (b : Binding) :
    (s.endFrame b).ie = s.ie := rfl

@[simp] theorem State.endFrame_fg (s : State) (b : Binding) :
    (s.endFrame b).fg = s.fg := rfl

@[simp] theorem State.endFrame_port (s : State) (b : Binding) :
    (s.endFrame b).port = s.port := rfl

@[simp] theorem State.endFrame_result (s : State) (b : Binding) :
    (s.endFrame b).result = s.result := rfl

@[simp] theorem State.endFrame_fnResult (s : State) (b : Binding) :
    (s.endFrame b).fnResult = s.fnResult := rfl

@[simp] theorem State.endFrame_samples (s : State) (b : Binding) :
    (s.endFrame b).samples = s.samples := rfl

@[simp] theorem State.endFrame_mem (s : State) (b : Binding) :
    (s.endFrame b).mem = s.mem := rfl

@[simp] theorem State.endFrame_sensors (s : State) (b : Binding) :
    (s.endFrame b).sensors = Sparse.putD s.sensors (sensorKey b) Sensor.reset { s.sensor b with dir := .idle } := rfl

@[simp] theorem State.endFrame_trace (s : State) (b : Binding) :
    (s.endFrame b).trace = s.trace := rfl

@[simp] theorem State.endFrame_loaded (s : State) (b : Binding) :
    (s.endFrame b).loaded = s.loaded := rfl

@[simp] theorem State.endFrame_moves (s : State) (b : Binding) :
    (s.endFrame b).moves = s.moves := rfl

@[simp] theorem State.endFrame_answers (s : State) (b : Binding) :
    (s.endFrame b).answers = s.answers := rfl

@[simp] theorem State.endFrame_clock (s : State) (b : Binding) :
    (s.endFrame b).clock = s.clock := rfl

@[simp] theorem State.endFrame_patience (s : State) (b : Binding) :
    (s.endFrame b).patience = s.patience := rfl

/-! `edge` -/

@[simp] theorem State.edge_cfg (s : State) (p : Pin) :
    (s.edge p).cfg = s.cfg := rfl

@[simp] theorem State.edge_slots (s : State) (p : Pin) :
    (s.edge p).slots = s.slots := rfl

@[simp] theorem State.edge_vecs (s : State) (p : Pin) :
    (s.edge p).vecs = s.vecs := rfl

@[simp] theorem State.edge_pending (s : State) (p : Pin) :
    (s.edge p).pending = latchEdge p s.slots s.pending := rfl

@[simp] theorem State.edge_ie (s : State) (p : Pin) :
    (s.edge p).ie = s.ie := rfl

@[simp] theorem State.edge_fg (s : State) (p : Pin) :
    (s.edge p).fg = s.fg := rfl

@[simp] theorem State.edge_port (s : State) (p : Pin) :
    (s.edge p).port = s.port := rfl

@[simp] theorem State.edge_result (s : State) (p : Pin) :
    (s.edge p).result = s.result := rfl

@[simp] theorem State.edge_fnResult (s : State) (p : Pin) :
    (s.edge p).fnResult = s.fnResult := rfl

@[simp] theorem State.edge_samples (s : State) (p : Pin) :
    (s.edge p).samples = s.samples := rfl

@[simp] theorem State.edge_mem (s : State) (p : Pin) :
    (s.edge p).mem = s.mem := rfl

@[simp] theorem State.edge_sensors (s : State) (p : Pin) :
    (s.edge p).sensors = s.sensors := rfl

@[simp] theorem State.edge_trace (s : State) (p : Pin) :
    (s.edge p).trace = s.trace := rfl

@[simp] theorem State.edge_loaded (s : State) (p : Pin) :
    (s.edge p).loaded = s.loaded := rfl

@[simp] theorem State.edge_moves (s : State) (p : Pin) :
    (s.edge p).moves = s.moves := rfl

@[simp] theorem State.edge_answers (s : State) (p : Pin) :
    (s.edge p).answers = s.answers := rfl

@[simp] theorem State.edge_clock (s : State) (p : Pin) :
    (s.edge p).clock = s.clock := rfl

@[simp] theorem State.edge_patience (s : State) (p : Pin) :
    (s.edge p).patience = s.patience := rfl

end Sys2Proof.Machine
end

