-- ==== Sys2Proof/Laws/Access.lean ====
section
/-! SUPPORT. What a read of one piece of state gives after a write of the same piece and of another one, and
that the addresses of different bytes differ (R40, R41). -/

namespace Sys2Proof.Machine

theorem State.slot_setSlot_same (s : State) (i : Nat) (x : Slot) (h : i < s.slots.length) :
    (s.setSlot i x).slot i = x := by
  simp [State.slot, List.getD, h]

theorem State.slot_setSlot_other (s : State) {i j : Nat} (x : Slot) (h : j ≠ i) :
    (s.setSlot i x).slot j = s.slot j := by
  simp [State.slot, List.getD, List.getElem?_set_ne h.symm]

/-- A slot after a write is the value written or the slot before. -/
theorem State.slot_setSlot (s : State) (i j : Nat) (x : Slot) :
    (s.setSlot i x).slot j = if j = i ∧ i < s.slots.length then x else s.slot j := by
  by_cases hj : j = i
  · subst hj
    by_cases hl : j < s.slots.length
    · simp [State.slot_setSlot_same s j x hl, hl]
    · simp [State.slot, List.getD, hl]
  · simp [State.slot_setSlot_other s x hj, hj]

theorem State.vec_setVec_same (s : State) (i : Nat) (x : Vec) (h : i < s.vecs.length) :
    (s.setVec i x).vec i = x := by
  simp [State.vec, List.getD, h]

theorem State.vec_setVec_other (s : State) {i j : Nat} (x : Vec) (h : j ≠ i) :
    (s.setVec i x).vec j = s.vec j := by
  simp [State.vec, List.getD, List.getElem?_set_ne h.symm]

/-- A vector after a write is the value written or the vector before. -/
theorem State.vec_setVec (s : State) (i j : Nat) (x : Vec) :
    (s.setVec i x).vec j = if j = i ∧ i < s.vecs.length then x else s.vec j := by
  by_cases hj : j = i
  · subst hj
    by_cases hl : j < s.vecs.length
    · simp [State.vec_setVec_same s j x hl, hl]
    · simp [State.vec, List.getD, hl]
  · simp [State.vec_setVec_other s x hj, hj]

theorem State.isPending_setPending_other (s : State) {i j : Nat} (v : Bool) (h : j ≠ i) :
    (s.setPending i v).isPending j = s.isPending j := by
  simp [State.isPending, List.getD, List.getElem?_set_ne h.symm]

theorem State.isPending_setPending_same (s : State) (i : Nat) (v : Bool) (h : i < s.pending.length) :
    (s.setPending i v).isPending i = v := by
  simp [State.isPending, List.getD, h]

@[simp] theorem State.isPending_clear_same (s : State) (i : Nat) : (s.setPending i false).isPending i = false := by
  by_cases h : i < s.pending.length
  · exact State.isPending_setPending_same s i false h
  · simp [State.isPending, List.getD, h]

@[simp] theorem State.sensor_setSensor_same (s : State) (b : Binding) (x : Sensor) :
    (s.setSensor b x).sensor b = x := by
  simp [State.sensor]

theorem State.sensor_setSensor_other (s : State) {b b' : Binding} (x : Sensor) (h : sensorKey b' ≠ sensorKey b) :
    (s.setSensor b x).sensor b' = s.sensor b' := by
  simp [State.sensor, Sparse.getD_putD_other _ _ _ h]

/-- Two bindings that reach the same sensor see the same sensor. -/
theorem State.sensor_congr (s : State) {b b' : Binding} (h : sensorKey b' = sensorKey b) :
    s.sensor b' = s.sensor b := by
  simp [State.sensor, h]

@[simp] theorem State.sample_setSample_same (s : State) (r : StorageRef) (x : Sample) :
    (s.setSample r x).sample r = x := by
  simp [State.sample]

theorem State.sample_setSample_other (s : State) {r r' : StorageRef} (x : Sample) (h : r' ≠ r) :
    (s.setSample r x).sample r' = s.sample r' := by
  have h' : r'.toNat ≠ r.toNat := fun e => h (BitVec.eq_of_toNat_eq e)
  simp [State.sample, Sparse.getD_putD_other _ _ _ h']

@[simp] theorem State.byteAt_setByte_same (s : State) (a : Nat) (v : Option Byte) :
    (s.setByte a v).byteAt a = v := by
  simp [State.byteAt]

theorem State.byteAt_setByte_other (s : State) {a a' : Nat} (v : Option Byte) (h : a' ≠ a) :
    (s.setByte a v).byteAt a' = s.byteAt a' := by
  simp [State.byteAt, Memory.get?_set_other _ _ h]

@[simp] theorem State.window_setWindow_same (s : State) (b : Binding) (r : Reg) (v : Option Byte) :
    (s.setWindow b r v).window b r = v := State.byteAt_setByte_same s _ v

@[simp] theorem State.eraByte_setEraByte_same (s : State) (b : Binding) (a : EraAddr) (v : Option Byte) :
    (s.setEraByte b a v).eraByte b a = v := State.byteAt_setByte_same s _ v

/-- Different registers of one window stand at different addresses. -/
theorem windowAddr_ne (b : Binding) {r r' : Reg} (h : r' ≠ r) : windowAddr b r' ≠ windowAddr b r := by
  have : r'.toNat ≠ r.toNat := fun e => h (BitVec.eq_of_toNat_eq e)
  simp only [windowAddr]; omega

/-- A window register never stands at the address of an ERA byte (R41). -/
theorem windowAddr_ne_eraAddr (b b' : Binding) (r : Reg) (a : EraAddr) : windowAddr b r ≠ eraAddr b' a := by
  have hr := r.isLt
  have ha := a.isLt
  simp only [windowAddr, eraAddr]; omega

/-- The window of one sensor and the window of another share no address. -/
theorem windowAddr_ne_of_sensor {b b' : Binding} (r r' : Reg) (h : sensorKey b' ≠ sensorKey b) :
    windowAddr b' r' ≠ windowAddr b r := by
  have hr := r.isLt
  have hr' := r'.isLt
  simp only [windowAddr]; omega

/-- Different bytes of one ERA space stand at different addresses. -/
theorem eraAddr_ne (b : Binding) {a a' : EraAddr} (h : a' ≠ a) : eraAddr b a' ≠ eraAddr b a := by
  have : a'.toNat ≠ a.toNat := fun e => h (BitVec.eq_of_toNat_eq e)
  simp only [eraAddr]; omega

theorem State.window_setWindow_other (s : State) (b : Binding) {r r' : Reg} (v : Option Byte) (h : r' ≠ r) :
    (s.setWindow b r v).window b r' = s.window b r' :=
  State.byteAt_setByte_other s v (windowAddr_ne b h)

/-- The fault latch of a vector that fails is set, and it is idle (R128, R36). -/
theorem State.vec_vecFail (s : State) (i : Nat) (h : i < s.vecs.length) :
    (s.vecFail i).vec i = { s.vec i with fault := true, ph := .idle } := by
  unfold State.vecFail State.returnVector State.latchFault
  rw [State.vec_setVec_same _ i _ (by simpa using h), State.vec_setVec_same s i _ h]

/-- A failing body touches its own vector only. -/
theorem State.vec_vecFail_other (s : State) {i j : Nat} (h : j ≠ i) : (s.vecFail i).vec j = s.vec j := by
  unfold State.vecFail State.returnVector State.latchFault
  rw [State.vec_setVec_other _ _ h, State.vec_setVec_other _ _ h]

end Sys2Proof.Machine
end

