-- ==== Sys2Proof/Laws/Frames.lean ====
section
/-! SUPPORT. What the sensor's side of a frame and the two frames leave alone (everything but `mem`, `sensors`
and `trace`), what they do to the sensor's feed, that they keep memory canonical, and what a frame with valid
markers reads and writes (R62, R83, R84). -/

namespace Sys2Proof.Machine

@[simp] theorem State.sensorCommand_cfg (s : State) (b : Binding) (cmd : Byte) :
    (s.sensorCommand b cmd).cfg = s.cfg := by
  unfold State.sensorCommand; split; rfl; split <;> rfl

@[simp] theorem State.sensorCommand_slots (s : State) (b : Binding) (cmd : Byte) :
    (s.sensorCommand b cmd).slots = s.slots := by
  unfold State.sensorCommand; split; rfl; split <;> rfl

@[simp] theorem State.sensorCommand_vecs (s : State) (b : Binding) (cmd : Byte) :
    (s.sensorCommand b cmd).vecs = s.vecs := by
  unfold State.sensorCommand; split; rfl; split <;> rfl

@[simp] theorem State.sensorCommand_pending (s : State) (b : Binding) (cmd : Byte) :
    (s.sensorCommand b cmd).pending = s.pending := by
  unfold State.sensorCommand; split; rfl; split <;> rfl

@[simp] theorem State.sensorCommand_ie (s : State) (b : Binding) (cmd : Byte) :
    (s.sensorCommand b cmd).ie = s.ie := by
  unfold State.sensorCommand; split; rfl; split <;> rfl

@[simp] theorem State.sensorCommand_fg (s : State) (b : Binding) (cmd : Byte) :
    (s.sensorCommand b cmd).fg = s.fg := by
  unfold State.sensorCommand; split; rfl; split <;> rfl

@[simp] theorem State.sensorCommand_port (s : State) (b : Binding) (cmd : Byte) :
    (s.sensorCommand b cmd).port = s.port := by
  unfold State.sensorCommand; split; rfl; split <;> rfl

@[simp] theorem State.sensorCommand_result (s : State) (b : Binding) (cmd : Byte) :
    (s.sensorCommand b cmd).result = s.result := by
  unfold State.sensorCommand; split; rfl; split <;> rfl

@[simp] theorem State.sensorCommand_fnResult (s : State) (b : Binding) (cmd : Byte) :
    (s.sensorCommand b cmd).fnResult = s.fnResult := by
  unfold State.sensorCommand; split; rfl; split <;> rfl

@[simp] theorem State.sensorCommand_samples (s : State) (b : Binding) (cmd : Byte) :
    (s.sensorCommand b cmd).samples = s.samples := by
  unfold State.sensorCommand; split; rfl; split <;> rfl

@[simp] theorem State.sensorCommand_loaded (s : State) (b : Binding) (cmd : Byte) :
    (s.sensorCommand b cmd).loaded = s.loaded := by
  unfold State.sensorCommand; split; rfl; split <;> rfl

@[simp] theorem State.sensorCommand_moves (s : State) (b : Binding) (cmd : Byte) :
    (s.sensorCommand b cmd).moves = s.moves := by
  unfold State.sensorCommand; split; rfl; split <;> rfl

@[simp] theorem State.sensorCommand_answers (s : State) (b : Binding) (cmd : Byte) :
    (s.sensorCommand b cmd).answers = s.answers := by
  unfold State.sensorCommand; split; rfl; split <;> rfl

@[simp] theorem State.sensorCommand_clock (s : State) (b : Binding) (cmd : Byte) :
    (s.sensorCommand b cmd).clock = s.clock := by
  unfold State.sensorCommand; split; rfl; split <;> rfl

@[simp] theorem State.sensorCommand_patience (s : State) (b : Binding) (cmd : Byte) :
    (s.sensorCommand b cmd).patience = s.patience := by
  unfold State.sensorCommand; split; rfl; split <;> rfl

@[simp] theorem State.sensorCommand_mem (s : State) (b : Binding) (cmd : Byte) :
    (s.sensorCommand b cmd).mem = s.mem := by
  unfold State.sensorCommand; split; rfl; split <;> rfl

@[simp] theorem State.sensorCommand_trace (s : State) (b : Binding) (cmd : Byte) :
    (s.sensorCommand b cmd).trace = s.trace := by
  unfold State.sensorCommand; split; rfl; split <;> rfl

@[simp] theorem State.deviceStore_cfg (s : State) (b : Binding) (r : Reg) (v : Byte) :
    (s.deviceStore b r v).cfg = s.cfg := by
  rfl

@[simp] theorem State.deviceStore_slots (s : State) (b : Binding) (r : Reg) (v : Byte) :
    (s.deviceStore b r v).slots = s.slots := by
  rfl

@[simp] theorem State.deviceStore_vecs (s : State) (b : Binding) (r : Reg) (v : Byte) :
    (s.deviceStore b r v).vecs = s.vecs := by
  rfl

@[simp] theorem State.deviceStore_pending (s : State) (b : Binding) (r : Reg) (v : Byte) :
    (s.deviceStore b r v).pending = s.pending := by
  rfl

@[simp] theorem State.deviceStore_ie (s : State) (b : Binding) (r : Reg) (v : Byte) :
    (s.deviceStore b r v).ie = s.ie := by
  rfl

@[simp] theorem State.deviceStore_fg (s : State) (b : Binding) (r : Reg) (v : Byte) :
    (s.deviceStore b r v).fg = s.fg := by
  rfl

@[simp] theorem State.deviceStore_port (s : State) (b : Binding) (r : Reg) (v : Byte) :
    (s.deviceStore b r v).port = s.port := by
  rfl

@[simp] theorem State.deviceStore_result (s : State) (b : Binding) (r : Reg) (v : Byte) :
    (s.deviceStore b r v).result = s.result := by
  rfl

@[simp] theorem State.deviceStore_fnResult (s : State) (b : Binding) (r : Reg) (v : Byte) :
    (s.deviceStore b r v).fnResult = s.fnResult := by
  rfl

@[simp] theorem State.deviceStore_samples (s : State) (b : Binding) (r : Reg) (v : Byte) :
    (s.deviceStore b r v).samples = s.samples := by
  rfl

@[simp] theorem State.deviceStore_loaded (s : State) (b : Binding) (r : Reg) (v : Byte) :
    (s.deviceStore b r v).loaded = s.loaded := by
  rfl

@[simp] theorem State.deviceStore_moves (s : State) (b : Binding) (r : Reg) (v : Byte) :
    (s.deviceStore b r v).moves = s.moves := by
  rfl

@[simp] theorem State.deviceStore_answers (s : State) (b : Binding) (r : Reg) (v : Byte) :
    (s.deviceStore b r v).answers = s.answers := by
  rfl

@[simp] theorem State.deviceStore_clock (s : State) (b : Binding) (r : Reg) (v : Byte) :
    (s.deviceStore b r v).clock = s.clock := by
  rfl

@[simp] theorem State.deviceStore_patience (s : State) (b : Binding) (r : Reg) (v : Byte) :
    (s.deviceStore b r v).patience = s.patience := by
  rfl

@[simp] theorem State.deviceStore_trace (s : State) (b : Binding) (r : Reg) (v : Byte) :
    (s.deviceStore b r v).trace = s.trace := by
  rfl

@[simp] theorem State.completeAccess_cfg (s : State) (b : Binding) :
    (s.completeAccess b).cfg = s.cfg := by
  simp only [State.completeAccess]; split; rfl; split <;> rfl

@[simp] theorem State.completeAccess_slots (s : State) (b : Binding) :
    (s.completeAccess b).slots = s.slots := by
  simp only [State.completeAccess]; split; rfl; split <;> rfl

@[simp] theorem State.completeAccess_vecs (s : State) (b : Binding) :
    (s.completeAccess b).vecs = s.vecs := by
  simp only [State.completeAccess]; split; rfl; split <;> rfl

@[simp] theorem State.completeAccess_pending (s : State) (b : Binding) :
    (s.completeAccess b).pending = s.pending := by
  simp only [State.completeAccess]; split; rfl; split <;> rfl

@[simp] theorem State.completeAccess_ie (s : State) (b : Binding) :
    (s.completeAccess b).ie = s.ie := by
  simp only [State.completeAccess]; split; rfl; split <;> rfl

@[simp] theorem State.completeAccess_fg (s : State) (b : Binding) :
    (s.completeAccess b).fg = s.fg := by
  simp only [State.completeAccess]; split; rfl; split <;> rfl

@[simp] theorem State.completeAccess_port (s : State) (b : Binding) :
    (s.completeAccess b).port = s.port := by
  simp only [State.completeAccess]; split; rfl; split <;> rfl

@[simp] theorem State.completeAccess_result (s : State) (b : Binding) :
    (s.completeAccess b).result = s.result := by
  simp only [State.completeAccess]; split; rfl; split <;> rfl

@[simp] theorem State.completeAccess_fnResult (s : State) (b : Binding) :
    (s.completeAccess b).fnResult = s.fnResult := by
  simp only [State.completeAccess]; split; rfl; split <;> rfl

@[simp] theorem State.completeAccess_samples (s : State) (b : Binding) :
    (s.completeAccess b).samples = s.samples := by
  simp only [State.completeAccess]; split; rfl; split <;> rfl

@[simp] theorem State.completeAccess_loaded (s : State) (b : Binding) :
    (s.completeAccess b).loaded = s.loaded := by
  simp only [State.completeAccess]; split; rfl; split <;> rfl

@[simp] theorem State.completeAccess_moves (s : State) (b : Binding) :
    (s.completeAccess b).moves = s.moves := by
  simp only [State.completeAccess]; split; rfl; split <;> rfl

@[simp] theorem State.completeAccess_answers (s : State) (b : Binding) :
    (s.completeAccess b).answers = s.answers := by
  simp only [State.completeAccess]; split; rfl; split <;> rfl

@[simp] theorem State.completeAccess_clock (s : State) (b : Binding) :
    (s.completeAccess b).clock = s.clock := by
  simp only [State.completeAccess]; split; rfl; split <;> rfl

@[simp] theorem State.completeAccess_patience (s : State) (b : Binding) :
    (s.completeAccess b).patience = s.patience := by
  simp only [State.completeAccess]; split; rfl; split <;> rfl

@[simp] theorem State.completeAccess_trace (s : State) (b : Binding) :
    (s.completeAccess b).trace = s.trace := by
  simp only [State.completeAccess]; split; rfl; split <;> rfl

@[simp] theorem State.afterByte_cfg (s : State) (b : Binding) (drawn : Byte) :
    (s.afterByte b drawn).cfg = s.cfg := by
  simp only [State.afterByte]; split <;> simp

@[simp] theorem State.afterByte_slots (s : State) (b : Binding) (drawn : Byte) :
    (s.afterByte b drawn).slots = s.slots := by
  simp only [State.afterByte]; split <;> simp

@[simp] theorem State.afterByte_vecs (s : State) (b : Binding) (drawn : Byte) :
    (s.afterByte b drawn).vecs = s.vecs := by
  simp only [State.afterByte]; split <;> simp

@[simp] theorem State.afterByte_pending (s : State) (b : Binding) (drawn : Byte) :
    (s.afterByte b drawn).pending = s.pending := by
  simp only [State.afterByte]; split <;> simp

@[simp] theorem State.afterByte_ie (s : State) (b : Binding) (drawn : Byte) :
    (s.afterByte b drawn).ie = s.ie := by
  simp only [State.afterByte]; split <;> simp

@[simp] theorem State.afterByte_fg (s : State) (b : Binding) (drawn : Byte) :
    (s.afterByte b drawn).fg = s.fg := by
  simp only [State.afterByte]; split <;> simp

@[simp] theorem State.afterByte_port (s : State) (b : Binding) (drawn : Byte) :
    (s.afterByte b drawn).port = s.port := by
  simp only [State.afterByte]; split <;> simp

@[simp] theorem State.afterByte_result (s : State) (b : Binding) (drawn : Byte) :
    (s.afterByte b drawn).result = s.result := by
  simp only [State.afterByte]; split <;> simp

@[simp] theorem State.afterByte_fnResult (s : State) (b : Binding) (drawn : Byte) :
    (s.afterByte b drawn).fnResult = s.fnResult := by
  simp only [State.afterByte]; split <;> simp

@[simp] theorem State.afterByte_samples (s : State) (b : Binding) (drawn : Byte) :
    (s.afterByte b drawn).samples = s.samples := by
  simp only [State.afterByte]; split <;> simp

@[simp] theorem State.afterByte_loaded (s : State) (b : Binding) (drawn : Byte) :
    (s.afterByte b drawn).loaded = s.loaded := by
  simp only [State.afterByte]; split <;> simp

@[simp] theorem State.afterByte_moves (s : State) (b : Binding) (drawn : Byte) :
    (s.afterByte b drawn).moves = s.moves := by
  simp only [State.afterByte]; split <;> simp

@[simp] theorem State.afterByte_answers (s : State) (b : Binding) (drawn : Byte) :
    (s.afterByte b drawn).answers = s.answers := by
  simp only [State.afterByte]; split <;> simp

@[simp] theorem State.afterByte_clock (s : State) (b : Binding) (drawn : Byte) :
    (s.afterByte b drawn).clock = s.clock := by
  simp only [State.afterByte]; split <;> simp

@[simp] theorem State.afterByte_patience (s : State) (b : Binding) (drawn : Byte) :
    (s.afterByte b drawn).patience = s.patience := by
  simp only [State.afterByte]; split <;> simp

@[simp] theorem State.afterByte_trace (s : State) (b : Binding) (drawn : Byte) :
    (s.afterByte b drawn).trace = s.trace := by
  simp only [State.afterByte]; split <;> simp

@[simp] theorem deviceSupply_cfg (b : Binding) (n k : Nat) (s : State) :
    (deviceSupply b n k s).2.cfg = s.cfg := by
  induction n generalizing k s with
  | zero => rfl
  | succ n ih => simp [deviceSupply, ih]

@[simp] theorem deviceSupply_slots (b : Binding) (n k : Nat) (s : State) :
    (deviceSupply b n k s).2.slots = s.slots := by
  induction n generalizing k s with
  | zero => rfl
  | succ n ih => simp [deviceSupply, ih]

@[simp] theorem deviceSupply_vecs (b : Binding) (n k : Nat) (s : State) :
    (deviceSupply b n k s).2.vecs = s.vecs := by
  induction n generalizing k s with
  | zero => rfl
  | succ n ih => simp [deviceSupply, ih]

@[simp] theorem deviceSupply_pending (b : Binding) (n k : Nat) (s : State) :
    (deviceSupply b n k s).2.pending = s.pending := by
  induction n generalizing k s with
  | zero => rfl
  | succ n ih => simp [deviceSupply, ih]

@[simp] theorem deviceSupply_ie (b : Binding) (n k : Nat) (s : State) :
    (deviceSupply b n k s).2.ie = s.ie := by
  induction n generalizing k s with
  | zero => rfl
  | succ n ih => simp [deviceSupply, ih]

@[simp] theorem deviceSupply_fg (b : Binding) (n k : Nat) (s : State) :
    (deviceSupply b n k s).2.fg = s.fg := by
  induction n generalizing k s with
  | zero => rfl
  | succ n ih => simp [deviceSupply, ih]

@[simp] theorem deviceSupply_port (b : Binding) (n k : Nat) (s : State) :
    (deviceSupply b n k s).2.port = s.port := by
  induction n generalizing k s with
  | zero => rfl
  | succ n ih => simp [deviceSupply, ih]

@[simp] theorem deviceSupply_result (b : Binding) (n k : Nat) (s : State) :
    (deviceSupply b n k s).2.result = s.result := by
  induction n generalizing k s with
  | zero => rfl
  | succ n ih => simp [deviceSupply, ih]

@[simp] theorem deviceSupply_fnResult (b : Binding) (n k : Nat) (s : State) :
    (deviceSupply b n k s).2.fnResult = s.fnResult := by
  induction n generalizing k s with
  | zero => rfl
  | succ n ih => simp [deviceSupply, ih]

@[simp] theorem deviceSupply_samples (b : Binding) (n k : Nat) (s : State) :
    (deviceSupply b n k s).2.samples = s.samples := by
  induction n generalizing k s with
  | zero => rfl
  | succ n ih => simp [deviceSupply, ih]

@[simp] theorem deviceSupply_loaded (b : Binding) (n k : Nat) (s : State) :
    (deviceSupply b n k s).2.loaded = s.loaded := by
  induction n generalizing k s with
  | zero => rfl
  | succ n ih => simp [deviceSupply, ih]

@[simp] theorem deviceSupply_moves (b : Binding) (n k : Nat) (s : State) :
    (deviceSupply b n k s).2.moves = s.moves := by
  induction n generalizing k s with
  | zero => rfl
  | succ n ih => simp [deviceSupply, ih]

@[simp] theorem deviceSupply_answers (b : Binding) (n k : Nat) (s : State) :
    (deviceSupply b n k s).2.answers = s.answers := by
  induction n generalizing k s with
  | zero => rfl
  | succ n ih => simp [deviceSupply, ih]

@[simp] theorem deviceSupply_clock (b : Binding) (n k : Nat) (s : State) :
    (deviceSupply b n k s).2.clock = s.clock := by
  induction n generalizing k s with
  | zero => rfl
  | succ n ih => simp [deviceSupply, ih]

@[simp] theorem deviceSupply_patience (b : Binding) (n k : Nat) (s : State) :
    (deviceSupply b n k s).2.patience = s.patience := by
  induction n generalizing k s with
  | zero => rfl
  | succ n ih => simp [deviceSupply, ih]

@[simp] theorem deviceSupply_trace (b : Binding) (n k : Nat) (s : State) :
    (deviceSupply b n k s).2.trace = s.trace := by
  induction n generalizing k s with
  | zero => rfl
  | succ n ih => simp [deviceSupply, ih]

@[simp] theorem State.memRead_cfg (s : State) (b : Binding) (reg : Reg) (n : Nat) :
    (s.memRead b reg n).2.cfg = s.cfg := by
  simp only [State.memRead]; split; (split <;> simp); simp

@[simp] theorem State.memRead_slots (s : State) (b : Binding) (reg : Reg) (n : Nat) :
    (s.memRead b reg n).2.slots = s.slots := by
  simp only [State.memRead]; split; (split <;> simp); simp

@[simp] theorem State.memRead_vecs (s : State) (b : Binding) (reg : Reg) (n : Nat) :
    (s.memRead b reg n).2.vecs = s.vecs := by
  simp only [State.memRead]; split; (split <;> simp); simp

@[simp] theorem State.memRead_pending (s : State) (b : Binding) (reg : Reg) (n : Nat) :
    (s.memRead b reg n).2.pending = s.pending := by
  simp only [State.memRead]; split; (split <;> simp); simp

@[simp] theorem State.memRead_ie (s : State) (b : Binding) (reg : Reg) (n : Nat) :
    (s.memRead b reg n).2.ie = s.ie := by
  simp only [State.memRead]; split; (split <;> simp); simp

@[simp] theorem State.memRead_fg (s : State) (b : Binding) (reg : Reg) (n : Nat) :
    (s.memRead b reg n).2.fg = s.fg := by
  simp only [State.memRead]; split; (split <;> simp); simp

@[simp] theorem State.memRead_port (s : State) (b : Binding) (reg : Reg) (n : Nat) :
    (s.memRead b reg n).2.port = s.port := by
  simp only [State.memRead]; split; (split <;> simp); simp

@[simp] theorem State.memRead_result (s : State) (b : Binding) (reg : Reg) (n : Nat) :
    (s.memRead b reg n).2.result = s.result := by
  simp only [State.memRead]; split; (split <;> simp); simp

@[simp] theorem State.memRead_fnResult (s : State) (b : Binding) (reg : Reg) (n : Nat) :
    (s.memRead b reg n).2.fnResult = s.fnResult := by
  simp only [State.memRead]; split; (split <;> simp); simp

@[simp] theorem State.memRead_samples (s : State) (b : Binding) (reg : Reg) (n : Nat) :
    (s.memRead b reg n).2.samples = s.samples := by
  simp only [State.memRead]; split; (split <;> simp); simp

@[simp] theorem State.memRead_loaded (s : State) (b : Binding) (reg : Reg) (n : Nat) :
    (s.memRead b reg n).2.loaded = s.loaded := by
  simp only [State.memRead]; split; (split <;> simp); simp

@[simp] theorem State.memRead_moves (s : State) (b : Binding) (reg : Reg) (n : Nat) :
    (s.memRead b reg n).2.moves = s.moves := by
  simp only [State.memRead]; split; (split <;> simp); simp

@[simp] theorem State.memRead_answers (s : State) (b : Binding) (reg : Reg) (n : Nat) :
    (s.memRead b reg n).2.answers = s.answers := by
  simp only [State.memRead]; split; (split <;> simp); simp

@[simp] theorem State.memRead_clock (s : State) (b : Binding) (reg : Reg) (n : Nat) :
    (s.memRead b reg n).2.clock = s.clock := by
  simp only [State.memRead]; split; (split <;> simp); simp

@[simp] theorem State.memRead_patience (s : State) (b : Binding) (reg : Reg) (n : Nat) :
    (s.memRead b reg n).2.patience = s.patience := by
  simp only [State.memRead]; split; (split <;> simp); simp

@[simp] theorem State.sensorWrite_cfg (s : State) (b : Binding) (reg : Reg) (v : Byte) :
    (s.sensorWrite b reg v).cfg = s.cfg := by
  simp [State.sensorWrite]

@[simp] theorem State.sensorWrite_slots (s : State) (b : Binding) (reg : Reg) (v : Byte) :
    (s.sensorWrite b reg v).slots = s.slots := by
  simp [State.sensorWrite]

@[simp] theorem State.sensorWrite_vecs (s : State) (b : Binding) (reg : Reg) (v : Byte) :
    (s.sensorWrite b reg v).vecs = s.vecs := by
  simp [State.sensorWrite]

@[simp] theorem State.sensorWrite_pending (s : State) (b : Binding) (reg : Reg) (v : Byte) :
    (s.sensorWrite b reg v).pending = s.pending := by
  simp [State.sensorWrite]

@[simp] theorem State.sensorWrite_ie (s : State) (b : Binding) (reg : Reg) (v : Byte) :
    (s.sensorWrite b reg v).ie = s.ie := by
  simp [State.sensorWrite]

@[simp] theorem State.sensorWrite_fg (s : State) (b : Binding) (reg : Reg) (v : Byte) :
    (s.sensorWrite b reg v).fg = s.fg := by
  simp [State.sensorWrite]

@[simp] theorem State.sensorWrite_port (s : State) (b : Binding) (reg : Reg) (v : Byte) :
    (s.sensorWrite b reg v).port = s.port := by
  simp [State.sensorWrite]

@[simp] theorem State.sensorWrite_result (s : State) (b : Binding) (reg : Reg) (v : Byte) :
    (s.sensorWrite b reg v).result = s.result := by
  simp [State.sensorWrite]

@[simp] theorem State.sensorWrite_fnResult (s : State) (b : Binding) (reg : Reg) (v : Byte) :
    (s.sensorWrite b reg v).fnResult = s.fnResult := by
  simp [State.sensorWrite]

@[simp] theorem State.sensorWrite_samples (s : State) (b : Binding) (reg : Reg) (v : Byte) :
    (s.sensorWrite b reg v).samples = s.samples := by
  simp [State.sensorWrite]

@[simp] theorem State.sensorWrite_loaded (s : State) (b : Binding) (reg : Reg) (v : Byte) :
    (s.sensorWrite b reg v).loaded = s.loaded := by
  simp [State.sensorWrite]

@[simp] theorem State.sensorWrite_moves (s : State) (b : Binding) (reg : Reg) (v : Byte) :
    (s.sensorWrite b reg v).moves = s.moves := by
  simp [State.sensorWrite]

@[simp] theorem State.sensorWrite_answers (s : State) (b : Binding) (reg : Reg) (v : Byte) :
    (s.sensorWrite b reg v).answers = s.answers := by
  simp [State.sensorWrite]

@[simp] theorem State.sensorWrite_clock (s : State) (b : Binding) (reg : Reg) (v : Byte) :
    (s.sensorWrite b reg v).clock = s.clock := by
  simp [State.sensorWrite]

@[simp] theorem State.sensorWrite_patience (s : State) (b : Binding) (reg : Reg) (v : Byte) :
    (s.sensorWrite b reg v).patience = s.patience := by
  simp [State.sensorWrite]

@[simp] theorem State.sensorWrite_trace (s : State) (b : Binding) (reg : Reg) (v : Byte) :
    (s.sensorWrite b reg v).trace = s.trace := by
  simp [State.sensorWrite]

@[simp] theorem State.memWrite_cfg (s : State) (b : Binding) (reg : Reg) (v : Byte) :
    (s.memWrite b reg v).2.cfg = s.cfg := by
  simp only [State.memWrite]; split; (split <;> simp); simp

@[simp] theorem State.memWrite_slots (s : State) (b : Binding) (reg : Reg) (v : Byte) :
    (s.memWrite b reg v).2.slots = s.slots := by
  simp only [State.memWrite]; split; (split <;> simp); simp

@[simp] theorem State.memWrite_vecs (s : State) (b : Binding) (reg : Reg) (v : Byte) :
    (s.memWrite b reg v).2.vecs = s.vecs := by
  simp only [State.memWrite]; split; (split <;> simp); simp

@[simp] theorem State.memWrite_pending (s : State) (b : Binding) (reg : Reg) (v : Byte) :
    (s.memWrite b reg v).2.pending = s.pending := by
  simp only [State.memWrite]; split; (split <;> simp); simp

@[simp] theorem State.memWrite_ie (s : State) (b : Binding) (reg : Reg) (v : Byte) :
    (s.memWrite b reg v).2.ie = s.ie := by
  simp only [State.memWrite]; split; (split <;> simp); simp

@[simp] theorem State.memWrite_fg (s : State) (b : Binding) (reg : Reg) (v : Byte) :
    (s.memWrite b reg v).2.fg = s.fg := by
  simp only [State.memWrite]; split; (split <;> simp); simp

@[simp] theorem State.memWrite_port (s : State) (b : Binding) (reg : Reg) (v : Byte) :
    (s.memWrite b reg v).2.port = s.port := by
  simp only [State.memWrite]; split; (split <;> simp); simp

@[simp] theorem State.memWrite_result (s : State) (b : Binding) (reg : Reg) (v : Byte) :
    (s.memWrite b reg v).2.result = s.result := by
  simp only [State.memWrite]; split; (split <;> simp); simp

@[simp] theorem State.memWrite_fnResult (s : State) (b : Binding) (reg : Reg) (v : Byte) :
    (s.memWrite b reg v).2.fnResult = s.fnResult := by
  simp only [State.memWrite]; split; (split <;> simp); simp

@[simp] theorem State.memWrite_samples (s : State) (b : Binding) (reg : Reg) (v : Byte) :
    (s.memWrite b reg v).2.samples = s.samples := by
  simp only [State.memWrite]; split; (split <;> simp); simp

@[simp] theorem State.memWrite_loaded (s : State) (b : Binding) (reg : Reg) (v : Byte) :
    (s.memWrite b reg v).2.loaded = s.loaded := by
  simp only [State.memWrite]; split; (split <;> simp); simp

@[simp] theorem State.memWrite_moves (s : State) (b : Binding) (reg : Reg) (v : Byte) :
    (s.memWrite b reg v).2.moves = s.moves := by
  simp only [State.memWrite]; split; (split <;> simp); simp

@[simp] theorem State.memWrite_answers (s : State) (b : Binding) (reg : Reg) (v : Byte) :
    (s.memWrite b reg v).2.answers = s.answers := by
  simp only [State.memWrite]; split; (split <;> simp); simp

@[simp] theorem State.memWrite_clock (s : State) (b : Binding) (reg : Reg) (v : Byte) :
    (s.memWrite b reg v).2.clock = s.clock := by
  simp only [State.memWrite]; split; (split <;> simp); simp

@[simp] theorem State.memWrite_patience (s : State) (b : Binding) (reg : Reg) (v : Byte) :
    (s.memWrite b reg v).2.patience = s.patience := by
  simp only [State.memWrite]; split; (split <;> simp); simp

/-- The accessors that read untouched fields read the same after a read frame. -/
@[simp] theorem State.memRead_slot (s : State) (b : Binding) (reg : Reg) (n i : Nat) :
    (s.memRead b reg n).2.slot i = s.slot i := by
  simp [State.slot]

@[simp] theorem State.memRead_vec (s : State) (b : Binding) (reg : Reg) (n i : Nat) :
    (s.memRead b reg n).2.vec i = s.vec i := by
  simp [State.vec]

@[simp] theorem State.memWrite_slot (s : State) (b : Binding) (reg : Reg) (v : Byte) (i : Nat) :
    (s.memWrite b reg v).2.slot i = s.slot i := by
  simp [State.slot]

@[simp] theorem State.memWrite_vec (s : State) (b : Binding) (reg : Reg) (v : Byte) (i : Nat) :
    (s.memWrite b reg v).2.vec i = s.vec i := by
  simp [State.vec]

/-! The feed of a sensor (R48 (d)). -/

@[simp] theorem State.endFrame_feed (s : State) (b b' : Binding) :
    ((s.endFrame b).sensor b').feed = (s.sensor b').feed := by
  unfold State.endFrame
  by_cases h : sensorKey b' = sensorKey b
  · rw [State.sensor_congr _ h, State.sensor_congr s h]; simp
  · rw [State.sensor_setSensor_other _ _ h]

@[simp] theorem State.sensorCommand_feed (s : State) (b b' : Binding) (cmd : Byte) :
    ((s.sensorCommand b cmd).sensor b').feed = (s.sensor b').feed := by
  unfold State.sensorCommand
  by_cases h : sensorKey b' = sensorKey b
  · rw [State.sensor_congr _ h, State.sensor_congr s h]; split
    · simp
    · split <;> simp
  · split
    · rw [State.sensor_setSensor_other _ _ h]
    · split
      · rw [State.sensor_setSensor_other _ _ h]
      · rfl

/-- The sensor `b` reaches is not changed by a write of bytes. -/
@[simp] theorem State.setWindow_sensor (s : State) (b b' : Binding) (r : Reg) (v : Option Byte) :
    (s.setWindow b r v).sensor b' = s.sensor b' := rfl

@[simp] theorem State.setEraByte_sensor (s : State) (b b' : Binding) (a : EraAddr) (v : Option Byte) :
    (s.setEraByte b a v).sensor b' = s.sensor b' := rfl

/-- The sensor after a store (R48, R30). -/
theorem State.deviceStore_sensor (s : State) (b : Binding) (r : Reg) (v : Byte) :
    (s.deviceStore b r v).sensor b =
      sensorAfterStore s.cfg (((s.setWindow b r (some v)).window b s.cfg.regEraAddrHi).getD 0)
        (((s.setWindow b r (some v)).window b s.cfg.regEraAddrLo).getD 0) r v (s.sensor b) := by
  simp [State.deviceStore]

theorem State.deviceStore_sensor_other (s : State) {b b' : Binding} (r : Reg) (v : Byte)
    (h : sensorKey b' ≠ sensorKey b) : (s.deviceStore b r v).sensor b' = s.sensor b' := by
  simp only [State.deviceStore]
  rw [State.sensor_setSensor_other _ _ h]; rfl

/-- A store changes the feed only at the feed register of that sensor (R48 (d)). -/
theorem State.deviceStore_feed (s : State) (b b' : Binding) (r : Reg) (v : Byte) :
    ((s.deviceStore b r v).sensor b').feed =
      if sensorKey b' = sensorKey b ∧ r = s.cfg.regFeed1 then feedEnabled s.cfg v else (s.sensor b').feed := by
  by_cases h : sensorKey b' = sensorKey b
  · rw [State.sensor_congr _ h, State.sensor_congr s h, State.deviceStore_sensor]
    simp [sensorAfterStore, h]
  · rw [State.deviceStore_sensor_other _ _ _ h]; simp [h]

/-- Completing an access changes no sensor's feed. -/
@[simp] theorem State.completeAccess_feed (s : State) (b b' : Binding) :
    ((s.completeAccess b).sensor b').feed = (s.sensor b').feed := by
  by_cases h : sensorKey b' = sensorKey b
  · rw [State.sensor_congr _ h, State.sensor_congr s h]
    simp [State.completeAccess]
  · simp only [State.completeAccess]
    rw [State.sensor_setSensor_other _ _ h]
    split
    · rfl
    · split <;> rfl

@[simp] theorem State.afterByte_feed (s : State) (b b' : Binding) (drawn : Byte) :
    ((s.afterByte b drawn).sensor b').feed = (s.sensor b').feed := by
  simp only [State.afterByte]
  by_cases h : sensorKey b' = sensorKey b
  · rw [State.sensor_congr _ h, State.sensor_congr s h]
    simp only [State.sensor_setSensor_same]
    split <;> simp
  · rw [State.sensor_setSensor_other _ _ h]
    split <;> simp

@[simp] theorem deviceSupply_feed (b b' : Binding) (n k : Nat) (s : State) :
    (((deviceSupply b n k s).2).sensor b').feed = (s.sensor b').feed := by
  induction n generalizing k s with
  | zero => rfl
  | succ n ih => simp [deviceSupply, ih]

@[simp] theorem State.record_sensor (s : State) (e : FrameEvent) (b : Binding) :
    (s.record e).sensor b = s.sensor b := rfl

/-- A read frame changes no sensor's feed. -/
@[simp] theorem State.memRead_feed (s : State) (b b' : Binding) (reg : Reg) (n : Nat) :
    (((s.memRead b reg n).2).sensor b').feed = (s.sensor b').feed := by
  simp only [State.memRead]
  split
  · split <;> simp
  · simp

/-- A read frame supplies exactly as many bytes as were asked for (R83). -/
@[simp] theorem deviceSupply_length (b : Binding) (n k : Nat) (s : State) :
    (deviceSupply b n k s).1.length = n := by
  induction n generalizing k s with
  | zero => rfl
  | succ n ih => simp [deviceSupply, ih]

/-! The canonical form. -/

theorem State.deviceStore_mem_wf (s : State) (b : Binding) (r : Reg) (v : Byte) (h : Memory.wf s.mem = true) :
    Memory.wf (s.deviceStore b r v).mem = true := by
  simpa [State.deviceStore] using Memory.wf_set s.mem _ (some v) h

theorem State.completeAccess_mem_wf (s : State) (b : Binding) (h : Memory.wf s.mem = true) :
    Memory.wf (s.completeAccess b).mem = true := by
  simp only [State.completeAccess, State.setSensor_mem, State.setWindow_mem]
  refine Memory.wf_set _ _ _ (Memory.wf_set _ _ _ ?_)
  split
  · exact Memory.wf_set s.mem _ _ h
  · split
    · exact Memory.wf_set _ _ _ (Memory.wf_set s.mem _ _ h)
    · exact h

theorem State.afterByte_mem_wf (s : State) (b : Binding) (drawn : Byte) (h : Memory.wf s.mem = true) :
    Memory.wf (s.afterByte b drawn).mem = true := by
  simp only [State.afterByte, State.setSensor_mem]
  split
  · exact State.completeAccess_mem_wf s b h
  · exact h

theorem deviceSupply_mem_wf (b : Binding) (n k : Nat) (s : State) (h : Memory.wf s.mem = true) :
    Memory.wf (deviceSupply b n k s).2.mem = true := by
  induction n generalizing k s with
  | zero => exact h
  | succ n ih => exact ih _ _ (State.afterByte_mem_wf s b _ h)

theorem State.sensorWrite_mem_wf (s : State) (b : Binding) (reg : Reg) (v : Byte) (h : Memory.wf s.mem = true) :
    Memory.wf (s.sensorWrite b reg v).mem = true := by
  simp only [State.sensorWrite, State.endFrame_mem]
  exact State.deviceStore_mem_wf _ _ _ _ (by simpa using h)

/-- A read frame keeps memory canonical. -/
theorem State.memRead_mem_wf (s : State) (b : Binding) (reg : Reg) (n : Nat) (h : Memory.wf s.mem = true) :
    Memory.wf (s.memRead b reg n).2.mem = true := by
  simp only [State.memRead]
  split
  · split <;> simpa using h
  · simp only [State.record_mem, State.endFrame_mem]
    exact deviceSupply_mem_wf _ _ _ _ (by simpa using h)

/-- A write frame keeps memory canonical. -/
theorem State.memWrite_mem_wf (s : State) (b : Binding) (reg : Reg) (v : Byte) (h : Memory.wf s.mem = true) :
    Memory.wf (s.memWrite b reg v).2.mem = true := by
  simp only [State.memWrite]
  split
  · split
    · exact State.sensorWrite_mem_wf s b reg v h
    · exact h
  · exact State.sensorWrite_mem_wf s b reg v h

/-! The command byte (R62). -/

/-- The marker of a command byte is the marker it was made with, if that has its low five bits zero (R6). -/
theorem commandMarker_commandByte (m : Byte) (r : Reg) (h : m &&& 0x1F = 0) :
    commandMarker (commandByte m r) = m := by
  unfold commandMarker commandByte
  apply BitVec.eq_of_getLsbD_eq
  intro i hi
  have hm := congrArg (fun v : Byte => v.getLsbD i) h
  have hc : i = 0 ∨ i = 1 ∨ i = 2 ∨ i = 3 ∨ i = 4 ∨ i = 5 ∨ i = 6 ∨ i = 7 := by omega
  rcases hc with rfl | rfl | rfl | rfl | rfl | rfl | rfl | rfl <;> simp at hm ⊢ <;> simp_all

/-- The register of a command byte is the one it was made with. -/
theorem commandReg_commandByte (m : Byte) (r : Reg) (h : m &&& 0x1F = 0) :
    commandReg (commandByte m r) = r := by
  unfold commandReg commandByte
  apply BitVec.eq_of_getLsbD_eq
  intro i hi
  have hm := congrArg (fun v : Byte => v.getLsbD i) h
  have hc : i = 0 ∨ i = 1 ∨ i = 2 ∨ i = 3 ∨ i = 4 := by omega
  rcases hc with rfl | rfl | rfl | rfl | rfl <;> simp at hm ⊢ <;> simp_all

theorem Config.valid_readMarker {c : Config} (h : c.valid = true) : c.readMarker &&& 0x1F = 0 := by
  simp only [Config.valid, Bool.and_eq_true, decide_eq_true_eq] at h; tauto

theorem Config.valid_writeMarker {c : Config} (h : c.valid = true) : c.writeMarker &&& 0x1F = 0 := by
  simp only [Config.valid, Bool.and_eq_true, decide_eq_true_eq] at h; tauto

theorem Config.valid_markers_ne {c : Config} (h : c.valid = true) : c.readMarker ≠ c.writeMarker := by
  simp only [Config.valid, Bool.and_eq_true, decide_eq_true_eq] at h; tauto

/-- After the command byte of a write frame the sensor writes at the register it names. -/
theorem State.sensorCommand_write (s : State) (b : Binding) (r : Reg) (h : s.cfg.valid = true) :
    s.sensorCommand b (writeCommand s.cfg r) = s.setSensor b { s.sensor b with ptr := r, dir := .writing } := by
  have hw := Config.valid_writeMarker h
  have hne := Config.valid_markers_ne h
  simp [State.sensorCommand, writeCommand, commandMarker_commandByte _ _ hw, commandReg_commandByte _ _ hw, hne.symm]

/-- After the command byte of a read frame the sensor reads from the register it names. -/
theorem State.sensorCommand_read (s : State) (b : Binding) (r : Reg) (h : s.cfg.valid = true) :
    s.sensorCommand b (readCommand s.cfg r) = s.setSensor b { s.sensor b with ptr := r, dir := .reading } := by
  have hw := Config.valid_readMarker h
  simp [State.sensorCommand, readCommand, commandMarker_commandByte _ _ hw, commandReg_commandByte _ _ hw]

/-- With valid parameters a write frame stores its byte at the register it names (R84). -/
theorem State.sensorWrite_eq (s : State) (b : Binding) (reg : Reg) (v : Byte) (h : s.cfg.valid = true) :
    s.sensorWrite b reg v =
      ((s.setSensor b { s.sensor b with ptr := reg, dir := .writing }).deviceStore b reg v).endFrame b := by
  simp [State.sensorWrite, State.sensorCommand_write s b reg h]

/-- The window register a write frame names holds the byte (R84). -/
theorem State.sensorWrite_window (s : State) (b : Binding) (reg : Reg) (v : Byte) (h : s.cfg.valid = true) :
    (s.sensorWrite b reg v).window b reg = some v := by
  rw [State.sensorWrite_eq s b reg v h]
  simp [State.window, State.byteAt, State.deviceStore]

/-- A write frame changes no byte but that register's. -/
theorem State.sensorWrite_byteAt_other (s : State) (b : Binding) (reg : Reg) (v : Byte) (a : Nat)
    (h : s.cfg.valid = true) (ha : a ≠ windowAddr b reg) : (s.sensorWrite b reg v).byteAt a = s.byteAt a := by
  rw [State.sensorWrite_eq s b reg v h]
  simp [State.byteAt, State.deviceStore, Memory.get?_set_other _ _ ha]

/-- A write frame changes the feed only at the feed register (R48 (d)). -/
theorem State.sensorWrite_feed (s : State) (b b' : Binding) (reg : Reg) (v : Byte) (h : s.cfg.valid = true) :
    ((s.sensorWrite b reg v).sensor b').feed =
      if sensorKey b' = sensorKey b ∧ reg = s.cfg.regFeed1 then feedEnabled s.cfg v else (s.sensor b').feed := by
  rw [State.sensorWrite_eq s b reg v h, State.endFrame_feed, State.deviceStore_feed]
  by_cases hk : sensorKey b' = sensorKey b
  · rw [State.sensor_congr _ hk, State.sensor_congr s hk]
    simp
  · rw [State.sensor_setSensor_other _ _ hk]
    simp [hk]

/-- What a frame that is done leaves in `trace` (R83). -/
theorem State.memRead_done (s : State) (b : Binding) (reg : Reg) (n : Nat) (h : s.answer.fail = false) :
    (s.memRead b reg n).1 = some (deviceSupply b n 0 (s.sensorCommand b (readCommand s.cfg reg))).1 ∧
      (s.memRead b reg n).2.trace =
        .read b reg n (deviceSupply b n 0 (s.sensorCommand b (readCommand s.cfg reg))).1 :: s.trace := by
  simp [State.memRead, h]

theorem State.memRead_failed (s : State) (b : Binding) (reg : Reg) (n : Nat) (h : s.answer.fail = true) :
    (s.memRead b reg n).1 = none ∧ (s.memRead b reg n).2.trace = .readFailed b reg n :: s.trace := by
  simp only [State.memRead, h, ↓reduceIte, true_and]
  split <;> simp

theorem State.memWrite_done (s : State) (b : Binding) (reg : Reg) (v : Byte) (h : s.answer.fail = false) :
    s.memWrite b reg v = (true, (s.sensorWrite b reg v).record (.write b reg v)) := by
  simp [State.memWrite, h]

theorem State.memWrite_failed (s : State) (b : Binding) (reg : Reg) (v : Byte) (h : s.answer.fail = true) :
    (s.memWrite b reg v).1 = false ∧ (s.memWrite b reg v).2.trace = .writeFailed b reg v :: s.trace := by
  simp only [State.memWrite, h, ↓reduceIte, true_and]
  split <;> simp

/-! The accessors of the record updates. -/

@[simp] theorem State.answer_sensorCommand (s : State) (b : Binding) (cmd : Byte) :
    (s.sensorCommand b cmd).answer = s.answer := by
  simp [State.answer]

@[simp] theorem State.freeByte_sensorCommand (s : State) (b : Binding) (cmd : Byte) (k : Nat) :
    (s.sensorCommand b cmd).freeByte k = s.freeByte k := by
  simp [State.freeByte]

/-- A read of `n` bytes from a freely answering device gives the environment's bytes (R83). -/
theorem deviceSupply_oracle (b : Binding) (n k : Nat) (s : State) (h : deviceModel s.cfg b = .oracle) :
    (deviceSupply b n k s).1 = (List.range n).map (fun j => s.freeByte (k + j)) := by
  induction n generalizing k s with
  | zero => rfl
  | succ n ih =>
    have hf : ∀ j, (s.afterByte b (s.freeByte k)).freeByte j = s.freeByte j := by
      intro j; simp [State.freeByte, State.answer]
    rw [List.range_succ_eq_map]
    simp only [deviceSupply, List.map_cons, List.map_map]
    rw [ih (k + 1) _ (by simpa using h)]
    simp only [State.presented, h, Nat.add_zero, hf, List.cons.injEq, true_and]
    apply List.map_congr_left
    intro j _
    simp [Nat.add_comm, Nat.add_left_comm]

end Sys2Proof.Machine
end

