-- ==== Sys2Proof/Laws/PerInstr.lean ====
section
/-! SUPPORT. The per-instruction family Admission: the operands an operation is refused for are exactly the ones
that are not well formed (R45, R65, R69, R176), constructor by constructor. -/

namespace Sys2Proof.Laws.Admission

open Sys2Proof.Machine

/-- No refusal for the operands exactly when they are well formed and the operation is no reserved one. -/
def Statement (i : Instr) : Prop :=
  ∀ c : Config, operandRefusal c i = none ↔ i.wf c = true ∧ ∀ low, i ≠ .cmdReserved low

theorem binding_iff (c : Config) (b : Binding) : bindingRefusal c b = none ↔ c.reaches b = true := by
  unfold bindingRefusal
  split
  · simp_all
  · split <;> simp_all

theorem slot_iff (c : Config) (i : Nat) : slotRefusal c i = none ↔ i < c.nSlots := by
  unfold slotRefusal; split <;> simp_all

theorem rapRead (b : Binding) (reg : Reg) (count : BitVec 6) : Statement (.rapRead b reg count) := by
  intro c
  simp only [operandRefusal, Instr.wf]
  split <;> simp_all [binding_iff]

theorem rapWrite (b : Binding) (reg : Reg) (data : Byte) : Statement (.rapWrite b reg data) := by
  intro c; simp [operandRefusal, Instr.wf, binding_iff]

theorem eraRead (b : Binding) (feed1 : Byte) (addr : EraAddr) (n : Byte) : Statement (.eraRead b feed1 addr n) := by
  intro c
  simp only [operandRefusal, Instr.wf]
  split <;> simp_all [binding_iff]

theorem eraWrite (b : Binding) (feed1 : Byte) (addr : EraAddr) (data : Byte) :
    Statement (.eraWrite b feed1 addr data) := by
  intro c; simp [operandRefusal, Instr.wf, binding_iff]

theorem register (pin : Pin) (b : Binding) (feed1 : Byte) (storage : StorageRef) :
    Statement (.register pin b feed1 storage) := by
  intro c
  simp only [operandRefusal, Instr.wf]
  split <;> simp_all [binding_iff]

theorem unregister (slot : Nat) : Statement (.unregister slot) := by
  intro c; simp [operandRefusal, Instr.wf, slot_iff]

theorem consumeReady (slot : Nat) : Statement (.consumeReady slot) := by
  intro c; simp [operandRefusal, Instr.wf, slot_iff]

theorem clearReady (slot : Nat) : Statement (.clearReady slot) := by
  intro c; simp [operandRefusal, Instr.wf, slot_iff]

theorem cmdReserved (low : BitVec 3) : Statement (.cmdReserved low) := by
  intro c; simp [operandRefusal]

theorem irqBody (i : Nat) : Statement (.irqBody i) := by
  intro c; simp [operandRefusal, Instr.wf]

theorem decodeAbs (b0 b1 b2 b3 b4 b5 : Byte) : Statement (.decodeAbs b0 b1 b2 b3 b4 b5) := by
  intro c; simp [operandRefusal, Instr.wf]

theorem decodeRel (b0 b1 b2 b3 : Byte) : Statement (.decodeRel b0 b1 b2 b3) := by
  intro c; simp [operandRefusal, Instr.wf]

theorem rapcmdRead (b : Binding) (a : Reg) : Statement (.rapcmdRead b a) := by
  intro c; simp [operandRefusal, Instr.wf, binding_iff]

theorem rapcmdWrite (b : Binding) (a : Reg) : Statement (.rapcmdWrite b a) := by
  intro c; simp [operandRefusal, Instr.wf, binding_iff]

theorem eraCtrlReadInc (b : Binding) : Statement (.eraCtrlReadInc b) := by
  intro c; simp [operandRefusal, Instr.wf, binding_iff]

theorem eraCtrlWrite (b : Binding) : Statement (.eraCtrlWrite b) := by
  intro c; simp [operandRefusal, Instr.wf, binding_iff]

theorem eraCtrlDone (b : Binding) : Statement (.eraCtrlDone b) := by
  intro c; simp [operandRefusal, Instr.wf, binding_iff]

theorem feedDisable (b : Binding) (feed1 : Byte) : Statement (.feedDisable b feed1) := by
  intro c; simp [operandRefusal, Instr.wf, binding_iff]

theorem feedEnable (b : Binding) (feed1 : Byte) : Statement (.feedEnable b feed1) := by
  intro c; simp [operandRefusal, Instr.wf, binding_iff]

theorem clearFlags (b : Binding) : Statement (.clearFlags b) := by
  intro c; simp [operandRefusal, Instr.wf, binding_iff]

theorem eraPoll (b : Binding) : Statement (.eraPoll b) := by
  intro c; simp [operandRefusal, Instr.wf, binding_iff]

end Sys2Proof.Laws.Admission
end

