-- ==== Sys2Proof/Laws/Ops.lean ====
section
/-! SUPPORT. For each shared operation, once, everything it can do: admission, the steps made of one frame, the
guard of extended accesses, dispatch, who is running, what a step is, and the induction that carries an invariant
over a step. -/

namespace Sys2Proof.Machine

/-! Admission. -/

/-- A well-formed operation that is no reserved one, with none other in progress and no data mode to refuse, runs its
body. -/
theorem State.accept_eq (s : State) (i : Instr) (p : Phase) (body : Phase → Host.Outcome State Fault Refusal)
    (hw : operandRefusal s.cfg i = none) (hp : s.phaseOf i = some p) (hm : s.modeRefusal i = none) :
    s.accept i body = body p := by
  simp [State.accept, hw, hp, hm]

/-- An operation that answers a next state was admitted and its body answered it. -/
theorem State.accept_next {s : State} {i : Instr} {body : Phase → Host.Outcome State Fault Refusal} {t : State}
    (h : s.accept i body = .next t) :
    operandRefusal s.cfg i = none ∧ ∃ p, s.phaseOf i = some p ∧ s.modeRefusal i = none ∧ body p = .next t := by
  unfold State.accept at h
  split at h
  · cases h
  · rename_i hr
    split at h
    · cases h
    · rename_i p hp
      split at h
      · cases h
      · rename_i hm; exact ⟨hr, p, hp, hm, h⟩

/-- A feed byte is refused only where an attached slot's storage has the other tag (R173, R178). -/
theorem State.feedRefusal_none {s : State} {b : Binding} {v : Byte} :
    s.feedRefusal b v = none ↔ s.modeConflict b v = false := by
  simp [State.feedRefusal]

/-- A feed byte agrees with the sensor's where nothing is recorded of it, or all but the feed enable is the same. -/
theorem State.feedConfigured_iff {s : State} {b : Binding} {v : Byte} :
    s.feedConfigured b v = true ↔
      ∀ w, s.window b s.cfg.regFeed1 = some w → feedOffByte s.cfg w = feedOffByte s.cfg v := by
  unfold State.feedConfigured
  split <;> simp_all

/-- The claim is made exactly where every duty of R163, R174 and R178 is kept. -/
theorem State.claimRefusal_none {s : State} {pin : Pin} {b : Binding} {f : Byte} {r : StorageRef} :
    s.claimRefusal pin b f r = none ↔
      (∀ x ∈ s.slots, x.attached = true → x.pin ≠ pin) ∧ (∀ x ∈ s.slots, x.claimed = true → x.sampleRef ≠ r) ∧
      (s.sample r).tagged = true ∧ feedMode s.cfg f = (s.sample r).mode ∧ s.modeConflict b f = false ∧
      ∀ w, s.window b s.cfg.regFeed1 = some w → feedOffByte s.cfg w = feedOffByte s.cfg f := by
  have h1 : s.pinTaken pin = false ↔ ∀ x ∈ s.slots, x.attached = true → x.pin ≠ pin := by simp [State.pinTaken]
  have h2 : s.storageTaken r = false ↔ ∀ x ∈ s.slots, x.claimed = true → x.sampleRef ≠ r := by
    simp [State.storageTaken]
  rw [← h1, ← h2, ← State.feedConfigured_iff, State.claimRefusal]
  split
  · simp_all
  · split
    · simp_all
    · split
      · simp_all
      · split
        · rename_i hc; simp only [reduceCtorEq, false_iff]; rintro ⟨-, -, -, hm, hk, -⟩
          exact hc.elim (fun e => e hm) (fun e => by simp [hk] at e)
        · split <;> simp_all

/-- With no operation in progress the phase is IDLE. -/
@[simp] theorem State.phaseOf_idle {s : State} (i : Instr) (h : s.fg.op = none) : s.phaseOf i = some .idle := by
  simp [State.phaseOf, h]

/-- The operation in progress stands in the sequencer's phase. -/
@[simp] theorem State.phaseOf_self {s : State} {i : Instr} (h : s.fg.op = some i) : s.phaseOf i = some s.fg.ph := by
  simp [State.phaseOf, h]

/-- A code on the bus reaches its sensor by a binding the host can present, or is refused. -/
theorem State.onBus_next {s : State} {b : Binding} {u t : State} (h : s.onBus b u = .next t) :
    s.cfg.reaches b = true ∧ t = u := by
  unfold State.onBus at h
  split at h
  · cases h
  · rename_i hb
    exact ⟨(Laws.Admission.binding_iff s.cfg b).mp hb, by injection h with h; exact h.symm⟩

/-! Steps made of one frame. -/

/-- A write step: the frame is done and `k` goes on, or it failed and the operation returns the error (R85). -/
theorem State.writeThen_done (s : State) (b : Binding) (reg : Reg) (v : Byte) (k : State → State)
    (h : s.answer.fail = false) :
    s.writeThen b reg v k = k ((s.sensorWrite b reg v).record (.write b reg v)) := by
  simp [State.writeThen, State.memWrite_done s b reg v h]

theorem State.writeThen_failed (s : State) (b : Binding) (reg : Reg) (v : Byte) (k : State → State)
    (h : s.answer.fail = true) :
    s.writeThen b reg v k = (s.memWrite b reg v).2.raiseError .busTransactionFailed := by
  simp [State.writeThen, (State.memWrite_failed s b reg v h).1]

/-- A read step: the frame is done and `k` goes on with exactly `n` bytes, or it failed (R83, R85). -/
theorem State.readThen_cases (s : State) (b : Binding) (reg : Reg) (n : Nat) (k : List Byte → State → State) :
    (s.answer.fail = false ∧ ∃ bytes, bytes.length = n ∧ (s.memRead b reg n).1 = some bytes ∧
      s.readThen b reg n k = k bytes (s.memRead b reg n).2) ∨
    (s.answer.fail = true ∧
      s.readThen b reg n k = (s.memRead b reg n).2.raiseError .busTransactionFailed) := by
  cases hf : s.answer.fail with
  | false =>
    refine .inl ⟨rfl, _, ?_, (State.memRead_done s b reg n hf).1, ?_⟩
    · simp
    · simp only [State.readThen, (State.memRead_done s b reg n hf).1]
  | true =>
    refine .inr ⟨rfl, ?_⟩
    simp only [State.readThen, (State.memRead_failed s b reg n hf).1]

/-- A poll: zero goes on, the cap's last non-zero poll returns the error, any other stays in POLL, a failed
frame returns its error (R94, R99). -/
theorem State.pollThen_cases (s : State) (i : Instr) (b : Binding) (k : State → State) :
    (s.answer.fail = true ∧
      s.pollThen i b k = (s.memRead b s.cfg.regEraCtrl 1).2.raiseError .busTransactionFailed) ∨
    ∃ c, s.answer.fail = false ∧ (s.memRead b s.cfg.regEraCtrl 1).1 = some [c] ∧
      ((c = 0 ∧ s.pollThen i b k = k (s.memRead b s.cfg.regEraCtrl 1).2) ∨
       (c ≠ 0 ∧ s.cfg.eraPollCap = some (s.fg.polls + 1) ∧
        s.pollThen i b k = (s.memRead b s.cfg.regEraCtrl 1).2.raiseError .unresponsiveDevice) ∨
       (c ≠ 0 ∧ s.cfg.eraPollCap ≠ some (s.fg.polls + 1) ∧
        s.pollThen i b k =
          ((s.memRead b s.cfg.regEraCtrl 1).2.setFg { s.fg with polls := s.fg.polls + 1 }).goto i .poll)) := by
  unfold State.pollThen
  obtain ⟨hf, bytes, hl, hb, he⟩ | ⟨hf, he⟩ := State.readThen_cases s b s.cfg.regEraCtrl 1 fun bytes t =>
    if pollDone (bytes.getD 0 0) then k t
    else if capReached s.cfg (s.fg.polls + 1) then t.raiseError .unresponsiveDevice
    else (t.setFg { t.fg with polls := s.fg.polls + 1 }).goto i .poll
  · obtain ⟨c, rfl⟩ := List.length_eq_one_iff.mp hl
    refine .inr ⟨c, hf, hb, ?_⟩
    rw [he]
    by_cases hc : c = 0
    · left; simp [pollDone, hc]
    · have hc' : ¬c = 0#8 := hc
      right
      by_cases hcap : s.cfg.eraPollCap = some (s.fg.polls + 1)
      · left; simp [pollDone, capReached, hc', hcap]
      · right; simp [pollDone, capReached, hc', hcap]
  · exact .inl ⟨hf, he⟩

/-- The guard of extended accesses: a fault with the feed on, else the step (R165). -/
theorem State.eraGuard_off {s : State} {b : Binding} (t : State) (h : (s.sensor b).feed = false) :
    s.eraGuard b t = .next t := by
  simp [State.eraGuard, h]

theorem State.eraGuard_on {s : State} {b : Binding} (t : State) (h : (s.sensor b).feed = true) :
    s.eraGuard b t = .fault .eraWhileFeedOn := by
  simp [State.eraGuard, h]

theorem State.eraGuard_next {s : State} {b : Binding} {u t : State} (h : s.eraGuard b u = .next t) :
    (s.sensor b).feed = false ∧ t = u := by
  unfold State.eraGuard at h
  split at h
  · cases h
  · rename_i hf; exact ⟨by simpa using hf, by injection h with h; exact h.symm⟩

/-! What else the steps made of frames leave alone. -/

theorem State.writeThen_keeps {α : Type} (f : State → α) (s : State) (b : Binding) (reg : Reg) (v : Byte)
    (k : State → State) (hm : f (s.memWrite b reg v).2 = f s)
    (hk : ∀ t, f (k t) = f t) (hr : ∀ t r, f (State.ret t r) = f t) : f (s.writeThen b reg v k) = f s := by
  simp only [State.writeThen, State.raiseError]
  split
  · rw [hk, hm]
  · rw [hr, hm]

theorem State.readThen_keeps {α : Type} (f : State → α) (s : State) (b : Binding) (reg : Reg) (n : Nat)
    (k : List Byte → State → State) (hm : f (s.memRead b reg n).2 = f s)
    (hk : ∀ bytes t, f (k bytes t) = f t) (hr : ∀ t r, f (State.ret t r) = f t) :
    f (s.readThen b reg n k) = f s := by
  simp only [State.readThen, State.raiseError]
  split
  · rw [hk, hm]
  · rw [hr, hm]

/-! The vectors. -/

/-- No body runs exactly when every vector is idle. -/
theorem State.running_none_iff (s : State) : s.running = none ↔ ∀ i, (s.vec i).ph = .idle := by
  unfold State.running
  rw [List.findIdx?_eq_none_iff]
  constructor
  · intro h i
    unfold State.vec List.getD
    cases hi : s.vecs[i]? with
    | none => rfl
    | some v => simpa using h v (List.mem_of_getElem? hi)
  · intro h v hv
    obtain ⟨i, hi⟩ := List.getElem?_of_mem hv
    have := h i
    simp only [State.vec, List.getD, hi, Option.getD_some] at this
    simp [this]

/-- The running vector is not idle and is one of the vectors. -/
theorem State.running_some {s : State} {i : Nat} (h : s.running = some i) :
    (s.vec i).ph ≠ .idle ∧ i < s.vecs.length := by
  unfold State.running at h
  rw [List.findIdx?_eq_some_iff_getElem] at h
  obtain ⟨hi, hp, -⟩ := h
  refine ⟨?_, hi⟩
  simpa [State.vec, List.getD, hi] using hp

/-- What allows a dispatch (R147). -/
theorem State.canDispatch_iff (s : State) (i : Nat) :
    s.canDispatch i = true ↔ s.isPending i = true ∧ s.ie = true ∧ s.running = none := by
  simp [State.canDispatch, and_assoc, Option.isNone_iff_eq_none]

/-- A candidate may be dispatched (R147). -/
theorem State.mem_candidates {s : State} {i : Nat} (h : i ∈ s.candidates) :
    i < s.cfg.nSlots ∧ s.canDispatch i = true := by
  simpa [State.candidates] using h

/-- While a body runs nothing may be dispatched (R149). -/
theorem State.candidates_running {s : State} (h : s.running ≠ none) : s.candidates = [] := by
  simp only [State.candidates, List.filter_eq_nil_iff]
  intro i _ hc
  exact h ((State.canDispatch_iff s i).mp hc).2.2

/-! The host's and the environment's moves. -/

/-- A tag that may be written is written, and nothing else (R24, R173). -/
theorem State.writeMode_next {s t : State} {r : StorageRef} {m : Mode} (h : s.writeMode r m = .next t) :
    s.storageAttached r = false ∧ t = s.setSample r ((s.sample r).retag m) := by
  unfold State.writeMode at h
  split at h
  · cases h
  · rename_i ha; exact ⟨by simpa using ha, by injection h with h; exact h.symm⟩

/-- A read is recorded, and nothing else happens (R72). -/
theorem State.load_next {s t : State} {r : StorageRef} {f : SampleField} (h : s.load r f = .next t) :
    t = { s with loaded := s.loadValue r f :: s.loaded } := by
  unfold State.load at h
  split at h
  · injection h with h; exact h.symm
  · cases h

/-- A covered read of a value that the tag does not deselect gives that value (R55). -/
theorem State.load_covered {s : State} {r : StorageRef} {f : SampleField} {v : Int} (hc : (s.sample r).covered = true)
    (hf : fieldMode f = none ∨ fieldMode f = some (s.sample r).mode) (hv : fieldValue (s.sample r) f = some v) :
    s.load r f = .next { s with loaded := v :: s.loaded } := by
  simp [State.load, State.loadValue, hc, hf, hv]

/-- A new tag leaves the timestamp and the fields of the member it selects (R25). -/
theorem Sample.retag_fieldValue (x : Sample) (m : Mode) (f : SampleField) (h : f ≠ .mode)
    (hf : fieldMode f = none ∨ fieldMode f = some m) : fieldValue (x.retag m) f = fieldValue x f := by
  cases m <;> cases f <;> simp_all [fieldMode, fieldValue]

/-- What is taken away is in no claimed slot's use; a storage then holds nothing (R178). -/
theorem State.discard_next {s t : State} {x : Resource} (h : s.discard x = .next t) :
    s.inUse x = false ∧ (t = s ∨ ∃ r, x = .storage r ∧ t = s.setSample r Sample.reset) := by
  unfold State.discard at h
  split at h
  · cases h
  · rename_i hu
    refine ⟨by simpa using hu, ?_⟩
    cases x with
    | transport tp => injection h with h; exact .inl h.symm
    | storage r => injection h with h; exact .inr ⟨r, rfl, h.symm⟩
    | pin p => injection h with h; exact .inl h.symm

/-- A feed byte another agent writes changes no attached slot's data mode and reaches the sensor as a write does (R93,
R178). -/
theorem State.otherFeed_next {s t : State} {b : Binding} {v : Byte} (h : s.otherFeed b v = .next t) :
    s.modeConflict b v = false ∧ t = s.deviceStore b s.cfg.regFeed1 v := by
  unfold State.otherFeed at h
  split at h
  · cases h
  · rename_i hn; exact ⟨State.feedRefusal_none.mp hn, by injection h with h; exact h.symm⟩

/-! Steps. -/

/-- A step that answers a next state is a turn whose free values are then used up. -/
theorem step_next {s t : State} (h : step s = .next t) : ∃ u, turn s = .next u ∧ t = u.tick := by
  unfold step tickOutcome at h
  split at h
  · rename_i u hu; exact ⟨u, hu, by injection h with h; exact h.symm⟩
  · cases h
  · cases h

/-- What the foreground agent's step is: the operation in progress goes on, the port's operation starts, or
nothing happens (R19, R65). -/
theorem foregroundStep_next {s t : State} (h : foregroundStep s = .next t) :
    (∃ i, s.fg.op = some i ∧ exec i s = .next t) ∨
    (∃ w i, s.fg.op = none ∧ s.port = some w ∧ decode s.cfg w = .ok i ∧ exec i s.takePort = .next t) ∨
    (s.fg.op = none ∧ s.port = none ∧ t = s) := by
  unfold foregroundStep at h
  split at h
  · rename_i i hi; exact .inl ⟨i, hi, h⟩
  · rename_i hn
    split at h
    · rename_i hp; exact .inr (.inr ⟨hn, hp, by injection h with h; exact h.symm⟩)
    · rename_i w hp
      split at h
      · cases h
      · rename_i i hd; exact .inr (.inl ⟨w, i, hn, hp, hd, h⟩)

/-- What the agent in turn does: the running body, else the foreground (R149, R156). -/
theorem agentStep_next {s t : State} (h : agentStep s = .next t) :
    (∃ i, s.running = some i ∧ exec (.irqBody i) s = .next t) ∨
    (s.running = none ∧ foregroundStep s = .next t) := by
  unfold agentStep at h
  split at h
  · rename_i i hi; exact .inl ⟨i, hi, h⟩
  · rename_i hn; exact .inr ⟨hn, h⟩

/-- A dispatch inside a frame is the body's dispatch, or the fault of R168. -/
theorem State.dispatchInside_next {s t : State} {i : Nat} (h : s.dispatchInside i = .next t) :
    exec (.irqBody i) s = .next t := by
  unfold State.dispatchInside at h
  split at h
  · split at h
    · cases h
    · exact h
  · exact h

/-- A dispatch the platform makes freely is the body's dispatch, or the fault of R168. -/
theorem State.dispatchFreely_next {s t : State} {i : Nat} (h : s.dispatchFreely i = .next t) :
    exec (.irqBody i) s = .next t := by
  unfold State.dispatchFreely at h
  split at h
  · exact State.dispatchInside_next h
  · exact h

/-- What a step with no move written out does: a dispatch of a vector that may be, the agent's step where none may be,
or the agent's step with one step less to wait (R145, R147, R156; log 37). -/
theorem freeStep_next {s t : State} (h : freeStep s = .next t) :
    (∃ i, i < s.cfg.nSlots ∧ s.canDispatch i = true ∧ exec (.irqBody i) s = .next t) ∨
    (s.candidates = [] ∧ agentStep s = .next t) ∨
    (s.waitLeft ≠ 0 ∧ agentStep { s with patience := some (s.waitLeft - 1) } = .next t) := by
  unfold freeStep at h
  split at h
  · rename_i hc; exact .inr (.inl ⟨hc, h⟩)
  · rename_i i is hc
    split at h
    · have hl : s.answer.choice % (is.length + 1) < (i :: is).length := Nat.mod_lt _ (Nat.succ_pos _)
      have hm : (i :: is).getD (s.answer.choice % (is.length + 1)) i ∈ s.candidates := by
        rw [hc, List.getD, List.getElem?_eq_getElem hl]; exact List.getElem_mem hl
      obtain ⟨h1, h2⟩ := State.mem_candidates hm
      exact .inl ⟨_, h1, h2, State.dispatchFreely_next h⟩
    · rename_i hw
      exact .inr (.inr ⟨fun e => hw (.inr e), h⟩)

/-- What an agent's turn does: a running body goes on or a vector is dispatched, the foreground's operation goes on or
starts, or the foreground has nothing to do (R19, R147, R149, R156). -/
inductive Ran (s : State) : State → Prop where
  | body {i : Nat} {u : State} : (s.running = some i ∨ s.canDispatch i = true) → exec (.irqBody i) s = .next u → Ran s u
  | goesOn {i : Instr} {u : State} : s.running = none → s.fg.op = some i → exec i s = .next u → Ran s u
  | starts {w : Fetch} {i : Instr} {u : State} : s.running = none → s.fg.op = none → s.port = some w →
      decode s.cfg w = .ok i → exec i s.takePort = .next u → Ran s u
  | waits : s.running = none → s.fg.op = none → s.port = none → Ran s s

/-- What a move of the outside world does that is no agent's turn (R72, R93, R143, R158, R178). A move of the host finds
no body running; a dispatch that R147 does not allow does nothing. -/
inductive Happened (s : State) : Move → State → Prop where
  | present (w : Fetch) : s.running = none → Happened s (.present w) { s with port := some w }
  | setIE (v : Bool) : s.running = none → Happened s (.setIE v) (s.setIe v)
  | writeMode {u : State} (r : StorageRef) (m : Mode) : s.running = none → s.writeMode r m = .next u →
      Happened s (.writeMode r m) u
  | load {u : State} (r : StorageRef) (f : SampleField) : s.running = none → s.load r f = .next u →
      Happened s (.load r f) u
  | discard {u : State} (x : Resource) : s.running = none → s.discard x = .next u → Happened s (.discard x) u
  | await : s.running = none → Happened s .await s
  | dispatch (i : Nat) : Happened s (.dispatch i) s
  | dispatchInFrame (i : Nat) : Happened s (.dispatchInFrame i) s
  | pulse (p : Pin) : Happened s (.pulse p) (s.edge p)
  | otherFeed {u : State} (b : Binding) (v : Byte) : s.otherFeed b v = .next u → Happened s (.otherFeed b v) u
  | sample (b : Binding) (bytes : List Byte) : Happened s (.sample b bytes) (s.deviceSample b bytes)
  | powerCycle : Happened s .powerCycle s.powerCycled

theorem agentStep_ran {s t : State} (h : agentStep s = .next t) : Ran s t := by
  obtain ⟨i, hi, h⟩ | ⟨hr, h⟩ := agentStep_next h
  · exact .body (.inl hi) h
  · obtain ⟨i, hi, h⟩ | ⟨w, i, hn, hp, hd, h⟩ | ⟨hn, hp, rfl⟩ := foregroundStep_next h
    · exact .goesOn hr hi h
    · exact .starts hr hn hp hd h
    · exact .waits hr hn hp

/-- Everything a step can do, said once: an agent's turn, from `s` with some of its moves taken and the wait for a
dispatch counted, or the first move of the outside world, if it need not wait. The step is then over. -/
theorem step_cases {s t : State} (h : step s = .next t) :
    ∃ u, t = u.tick ∧
      ((∃ ms q, Ran { s with moves := ms, patience := q } u) ∨
       ∃ m ms, s.moves = m :: ms ∧ s.mustWait m = false ∧ Happened { s with moves := ms } m u) := by
  obtain ⟨u, hu, rfl⟩ := step_next h
  refine ⟨u, rfl, ?_⟩
  have hFree : freeStep s = .next u → ∃ ms q, Ran { s with moves := ms, patience := q } u := by
    intro h
    obtain ⟨i, -, hc, h⟩ | ⟨-, h⟩ | ⟨-, h⟩ := freeStep_next h
    · exact ⟨s.moves, s.patience, .body (.inr hc) h⟩
    · exact ⟨s.moves, s.patience, agentStep_ran h⟩
    · exact ⟨s.moves, some (s.waitLeft - 1), agentStep_ran h⟩
  unfold turn at hu
  split at hu
  · exact .inl (hFree hu)
  · rename_i m ms hm
    split at hu
    · exact .inl (hFree hu)
    · rename_i hw
      have hIdle : m.isHost = true → ({ s with moves := ms } : State).running = none := by
        intro hh
        cases hr : s.running with
        | none => exact hr
        | some k => exact absurd (by simp [State.mustWait, hh, hr]) hw
      have hH : Happened { s with moves := ms } m u → (∃ ms q, Ran { s with moves := ms, patience := q } u) ∨
          ∃ m ms, s.moves = m :: ms ∧ s.mustWait m = false ∧ Happened { s with moves := ms } m u :=
        fun hh => .inr ⟨m, ms, hm, by simpa using hw, hh⟩
      cases m with
      | present w => injection hu with hu; subst hu; exact hH (.present w (hIdle rfl))
      | setIE v => injection hu with hu; subst hu; exact hH (.setIE v (hIdle rfl))
      | writeMode r md => exact hH (.writeMode r md (hIdle rfl) hu)
      | load r f => exact hH (.load r f (hIdle rfl) hu)
      | discard x => exact hH (.discard x (hIdle rfl) hu)
      | await => injection hu with hu; subst hu; exact hH (.await (hIdle rfl))
      | run => exact .inl ⟨ms, s.patience, agentStep_ran hu⟩
      | dispatch i =>
        simp only [doMove] at hu
        split at hu
        · rename_i hc; exact .inl ⟨ms, s.patience, .body (.inr hc.2) hu⟩
        · injection hu with hu; subst hu; exact hH (.dispatch i)
      | dispatchInFrame i =>
        simp only [doMove] at hu
        split at hu
        · rename_i hc; exact .inl ⟨ms, s.patience, .body (.inr hc.2) (State.dispatchInside_next hu)⟩
        · injection hu with hu; subst hu; exact hH (.dispatchInFrame i)
      | pulse p => injection hu with hu; subst hu; exact hH (.pulse p)
      | otherFeed b v => exact hH (.otherFeed b v hu)
      | sample b bytes => injection hu with hu; subst hu; exact hH (.sample b bytes)
      | powerCycle => injection hu with hu; subst hu; exact hH .powerCycle

/-- A property that a step keeps if the agents' instructions and the outside world's moves keep it: the case
split of `step`, once. `P` may say nothing about what is still to come (moves, free values). -/
theorem step_keeps (P : State → Prop)
    (hTick : ∀ s, P s → P s.tick)
    (hMoves : ∀ s ms, P s → P { s with moves := ms })
    (hPatience : ∀ s q, P s → P { s with patience := q })
    (hTake : ∀ s, s.fg.op = none → P s → P s.takePort)
    (hBody : ∀ s t i, (s.running = some i ∨ s.canDispatch i = true) → P s → exec (.irqBody i) s = .next t → P t)
    (hGoOn : ∀ s t i, s.running = none → s.fg.op = some i → P s → exec i s = .next t → P t)
    (hStart : ∀ s t w i, s.running = none → s.fg.op = none → decode s.cfg w = .ok i → P s → exec i s = .next t → P t)
    (hPresent : ∀ s w, P s → P { s with port := some w })
    (hIe : ∀ s v, P s → P (s.setIe v))
    (hMode : ∀ s t r m, s.running = none → P s → s.writeMode r m = .next t → P t)
    (hLoad : ∀ s t r f, P s → s.load r f = .next t → P t)
    (hDiscard : ∀ s t x, s.running = none → P s → s.discard x = .next t → P t)
    (hPulse : ∀ s p, P s → P (s.edge p))
    (hOther : ∀ s t b v, P s → s.otherFeed b v = .next t → P t)
    (hSample : ∀ s b bytes, P s → P (s.deviceSample b bytes))
    (hPower : ∀ s, P s → P s.powerCycled)
    {s t : State} (hs : P s) (h : step s = .next t) : P t := by
  obtain ⟨u, rfl, ⟨ms, q, h⟩ | ⟨m, ms, -, -, h⟩⟩ := step_cases h
  · apply hTick
    have hs' := hPatience _ q (hMoves s ms hs)
    cases h with
    | body hc h => exact hBody _ u _ hc hs' h
    | goesOn hr hi h => exact hGoOn _ u _ hr hi hs' h
    | starts hr hn hp hd h =>
      exact hStart _ u _ _ (by simpa [State.running] using hr) (by simpa using hn) (by simpa using hd) (hTake _ hn hs') h
    | waits => exact hs'
  · apply hTick
    have hs' := hMoves s ms hs
    cases h with
    | present w => exact hPresent _ w hs'
    | setIE v => exact hIe _ v hs'
    | writeMode r m hr h => exact hMode _ u r m hr hs' h
    | load r f _ h => exact hLoad _ u r f hs' h
    | discard x hr h => exact hDiscard _ u x hr hs' h
    | await => exact hs'
    | dispatch i => exact hs'
    | dispatchInFrame i => exact hs'
    | pulse p => exact hPulse _ p hs'
    | otherFeed b v h => exact hOther _ u b v hs' h
    | sample b bytes => exact hSample _ b bytes hs'
    | powerCycle => exact hPower _ hs'

end Sys2Proof.Machine
end

