-- ==== Sys2Proof/Laws/Exec.lean ====
section
/-! SUPPORT. What the foreground's instructions leave alone, for all of them at once: no instruction but IRQ_BODY
changes a vector or the free values still to come, and none changes the parameters (R5, R151). -/

namespace Sys2Proof.Machine

/-- The part of the state that a frame and a return of the foreground leave alone. -/
structure Quiet {α : Type} (f : State → α) : Prop where
  memWrite : ∀ s b reg v, f (State.memWrite s b reg v).2 = f s
  memRead : ∀ s b reg n, f (State.memRead s b reg n).2 = f s
  setFg : ∀ s x, f (State.setFg s x) = f s
  ret : ∀ s r, f (State.ret s r) = f s

namespace Quiet

variable {α : Type} {f : State → α}

theorem goto (q : Quiet f) (s : State) (i : Instr) (p : Phase) : f (s.goto i p) = f s := q.setFg s _

theorem writeThen (q : Quiet f) (s : State) (b : Binding) (reg : Reg) (v : Byte) (k : State → State)
    (hk : ∀ t, f (k t) = f t) : f (s.writeThen b reg v k) = f s :=
  State.writeThen_keeps f s b reg v k (q.memWrite s b reg v) hk q.ret

theorem readThen (q : Quiet f) (s : State) (b : Binding) (reg : Reg) (n : Nat) (k : List Byte → State → State)
    (hk : ∀ bytes t, f (k bytes t) = f t) : f (s.readThen b reg n k) = f s :=
  State.readThen_keeps f s b reg n k (q.memRead s b reg n) hk q.ret

theorem pollThen (q : Quiet f) (s : State) (i : Instr) (b : Binding) (k : State → State)
    (hk : ∀ t, f (k t) = f t) : f (s.pollThen i b k) = f s := by
  refine q.readThen s b _ 1 _ fun bytes t => ?_
  dsimp only
  split
  · exact hk t
  · split
    · exact q.ret t _
    · rw [q.goto, q.setFg]

theorem eraNextByte (q : Quiet f) (s : State) (i : Instr) (n : Nat) : f (s.eraNextByte i n) = f s := by
  unfold State.eraNextByte
  split
  · rw [q.goto, q.setFg]
  · exact q.ret s _

theorem eraStart (q : Quiet f) (s : State) (i : Instr) (b : Binding) (feed1 : Byte) (p : Phase) :
    f (s.eraStart i b feed1 p) = f s := by
  unfold State.eraStart State.feedDisableThen
  exact q.writeThen s b _ _ _ fun t => by rw [q.goto, q.setFg]

theorem eraControl (q : Quiet f) (s : State) (i : Instr) (b : Binding) (code : Byte) :
    f (s.eraControl i b code) = f s :=
  q.writeThen s b _ _ _ fun t => by rw [q.goto, q.setFg]

end Quiet

/-- ERA_READ leaves a quiet part alone. -/
theorem eraReadPhase_quiet {α : Type} {f : State → α} (q : Quiet f) {b : Binding} {feed1 : Byte} {addr : EraAddr}
    {n : Byte} {s t : State} {p : Phase} (h : eraReadPhase b feed1 addr n s p = .next t) : f t = f s := by
  cases p <;> simp only [eraReadPhase] at h <;> try cases h
  · exact q.eraStart _ _ _ _ _
  · exact q.eraStart _ _ _ _ _
  · rw [(State.eraGuard_next h).2]; exact q.writeThen _ _ _ _ _ fun u => q.goto u _ _
  · rw [(State.eraGuard_next h).2]
    refine q.writeThen _ _ _ _ _ fun u => ?_
    split
    · exact q.ret u _
    · exact q.goto u _ _
  · rw [(State.eraGuard_next h).2]; exact q.eraControl _ _ _ _
  · rw [(State.eraGuard_next h).2]; exact q.pollThen _ _ _ _ fun u => q.goto u _ _
  · rw [(State.eraGuard_next h).2]
    exact q.readThen _ _ _ _ _ fun bytes u => by rw [q.goto, q.setFg]
  · rw [(State.eraGuard_next h).2]; exact q.writeThen _ _ _ _ _ fun u => q.eraNextByte u _ _

/-- ERA_WRITE leaves a quiet part alone. -/
theorem eraWritePhase_quiet {α : Type} {f : State → α} (q : Quiet f) {b : Binding} {feed1 : Byte} {addr : EraAddr}
    {data : Byte} {s t : State} {p : Phase} (h : eraWritePhase b feed1 addr data s p = .next t) : f t = f s := by
  cases p <;> simp only [eraWritePhase] at h <;> try cases h
  · exact q.eraStart _ _ _ _ _
  · exact q.eraStart _ _ _ _ _
  · rw [(State.eraGuard_next h).2]; exact q.writeThen _ _ _ _ _ fun u => q.goto u _ _
  · rw [(State.eraGuard_next h).2]; exact q.writeThen _ _ _ _ _ fun u => q.goto u _ _
  · rw [(State.eraGuard_next h).2]; exact q.writeThen _ _ _ _ _ fun u => q.goto u _ _
  · rw [(State.eraGuard_next h).2]; exact q.eraControl _ _ _ _
  · rw [(State.eraGuard_next h).2]; exact q.pollThen _ _ _ _ fun u => q.goto u _ _
  · rw [(State.eraGuard_next h).2]; exact q.writeThen _ _ _ _ _ fun u => q.ret u _

/-- What the frames and the table operations leave alone: `f` is quiet, and no slot, latch, interrupt enable,
coverage of a storage, decode result or sensor that the foreground writes is part of it. -/
structure Apart {α : Type} (f : State → α) : Prop extends Quiet f where
  setSlot : ∀ s i x, f (State.setSlot s i x) = f s
  setPending : ∀ s i v, f (State.setPending s i v) = f s
  setIe : ∀ s v, f (State.setIe s v) = f s
  cover : ∀ s r v, f (State.setSample s r { s.sample r with covered := v }) = f s
  setFn : ∀ s x, f { s with fnResult := x } = f s
  sensorCommand : ∀ s b cmd, f (State.sensorCommand s b cmd) = f s
  deviceStore : ∀ s b r v, f (State.deviceStore s b r v) = f s
  completeAccess : ∀ s b, f (State.completeAccess s b) = f s
  setWindow : ∀ s b r v, f (State.setWindow s b r v) = f s

/-- No instruction of the foreground changes a part that stands apart from what it writes. -/
theorem exec_apart {α : Type} {f : State → α} (q : Apart f) {i : Instr} {s t : State} (h : exec i s = .next t)
    (hi : ∀ k, i ≠ .irqBody k) : f t = f s := by
  have qq := q.toQuiet
  cases i with
  | rapRead b reg count =>
    obtain ⟨-, p, -, -, h⟩ := State.accept_next h
    injection h with h; subst h
    exact qq.readThen _ _ _ _ _ fun bytes u => qq.ret u _
  | rapWrite b reg v =>
    obtain ⟨-, p, -, -, h⟩ := State.accept_next h
    injection h with h; subst h
    exact qq.writeThen _ _ _ _ _ fun u => qq.ret u _
  | eraRead b feed1 addr n =>
    obtain ⟨-, p, -, -, h⟩ := State.accept_next h
    exact eraReadPhase_quiet qq h
  | eraWrite b feed1 addr v =>
    obtain ⟨-, p, -, -, h⟩ := State.accept_next h
    exact eraWritePhase_quiet qq h
  | register pin b feed1 r =>
    obtain ⟨-, p, -, -, h⟩ := State.accept_next h
    have hl : ∀ k, registerLine pin b feed1 r s k = .next t → f t = f s := by
      intro k h
      unfold registerLine at h
      split at h
      · split at h <;> injection h with h <;> subst h
        · rw [qq.goto, qq.setFg]
        · exact qq.ret s _
      · split at h <;> injection h with h <;> subst h
        · rw [qq.goto, qq.setFg]
        · exact qq.ret s _
      · split at h
        · cases h
        · injection h with h; subst h
          rw [qq.goto]
          simp only [State.claim, State.maskIrq]
          rw [q.setIe, q.setSlot, q.setIe]
      · injection h with h; subst h
        rw [qq.goto]; exact q.setSlot s _ _
      · injection h with h; subst h; exact qq.writeThen _ _ _ _ _ fun u => qq.goto u _ _
      · injection h with h; subst h; exact qq.writeThen _ _ _ _ _ fun u => qq.goto u _ _
      · injection h with h; subst h; exact qq.writeThen _ _ _ _ _ fun u => qq.goto u _ _
      · injection h with h; subst h; exact qq.ret s _
      · cases h
    cases p <;> first | exact hl _ h | cases h
  | unregister k =>
    obtain ⟨-, p, -, -, h⟩ := State.accept_next h
    have hl : ∀ n, unregisterLine k s n = .next t → f t = f s := by
      intro n h
      unfold unregisterLine at h
      split at h
      · injection h with h; subst h
        rw [qq.goto, qq.setFg]
        unfold State.detach State.setAttached
        split
        · rw [q.setPending, q.setSlot]
        · rfl
      · injection h with h; subst h
        rw [qq.goto]
        simp only [State.release, State.maskIrq, State.setClaimed]
        rw [q.setIe, q.setSlot, q.setIe]
      · injection h with h; subst h; exact qq.ret s _
      · cases h
    cases p <;> first | exact hl _ h | cases h
  | consumeReady k =>
    obtain ⟨-, p, -, -, h⟩ := State.accept_next h
    injection h with h; subst h
    rw [qq.ret]
    unfold State.coverSample
    split
    · exact q.cover s _ _
    · rfl
  | clearReady k =>
    obtain ⟨-, p, -, -, h⟩ := State.accept_next h
    injection h with h; subst h
    rw [qq.ret]
    exact q.setSlot s _ _
  | cmdReserved low => cases h
  | irqBody k => exact absurd rfl (hi k)
  | decodeAbs b0 b1 b2 b3 b4 b5 => injection h with h; subst h; exact q.setFn s _
  | decodeRel b0 b1 b2 b3 => injection h with h; subst h; exact q.setFn s _
  | rapcmdRead b a => rw [(State.onBus_next h).2]; exact q.sensorCommand s _ _
  | rapcmdWrite b a => rw [(State.onBus_next h).2]; exact q.sensorCommand s _ _
  | eraCtrlReadInc b => rw [(State.onBus_next h).2]; exact q.deviceStore s _ _ _
  | eraCtrlWrite b => rw [(State.onBus_next h).2]; exact q.deviceStore s _ _ _
  | eraCtrlDone b =>
    rw [(State.onBus_next h).2]
    split
    · rfl
    · split
      · exact q.setWindow s _ _ _
      · exact q.completeAccess s b
  | feedDisable b feed1 =>
    obtain ⟨-, p, -, -, h⟩ := State.accept_next h
    injection h with h; subst h
    exact qq.writeThen _ _ _ _ _ fun u => qq.ret u _
  | feedEnable b feed1 =>
    obtain ⟨-, p, -, -, h⟩ := State.accept_next h
    injection h with h; subst h
    exact qq.writeThen _ _ _ _ _ fun u => qq.ret u _
  | clearFlags b =>
    obtain ⟨-, p, -, -, h⟩ := State.accept_next h
    injection h with h; subst h
    exact qq.writeThen _ _ _ _ _ fun u => qq.ret u _
  | eraPoll b =>
    obtain ⟨-, p, -, -, h⟩ := State.accept_next h
    cases p <;> dsimp only at h <;> try cases h
    · rw [(State.eraGuard_next h).2, qq.pollThen _ _ _ _ (fun u => qq.ret u _), qq.setFg]
    · rw [(State.eraGuard_next h).2, qq.pollThen _ _ _ _ (fun u => qq.ret u _)]

/-- The vectors, the outside world's record and the parameters stand apart. -/
theorem apart_vecs : Apart (fun s : State => (s.vecs, s.cfg, s.moves, s.answers, s.clock, s.loaded, s.port, s.patience)) := by
  constructor <;> (try constructor) <;> intros <;> simp

/-- The storages, but for the model's own bit `covered`, stand apart: no foreground instruction writes one (R24, R25). -/
theorem apart_samples : Apart (fun s r => ({ s.sample r with covered := false } : Sample)) := by
  constructor
  · constructor <;> intros <;> simp [State.sample]
  case cover =>
    intro s r v
    funext r'
    by_cases h : r' = r
    · subst h; simp
    · simp [State.sample_setSample_other s _ h]
  all_goals intros; simp [State.sample]

/-- Frames and returns leave the slot table alone. -/
theorem quiet_slots : Quiet (fun s : State => s.slots) := by constructor <;> intros <;> simp

/-- What a foreground instruction may do to a slot of the table, and in which phase (R13, R16, R17, R18). -/
inductive SlotWrite (s : State) (i : Instr) (k : Nat) : Slot → Prop where
  | same : SlotWrite s i k (s.slot k)
  | claim {pin : Pin} {b : Binding} {f : Byte} {r : StorageRef} : i = .register pin b f r →
      s.phaseOf i = some (.line 3) → k = s.fg.slot →
      SlotWrite s i k { s.slot k with
        claimed := true, busAddress := b.busAddress, busSpeed := b.busSpeed, rapRead := b.tp, rapWrite := b.tp,
        sampleRef := r, ready := false }
  | attach {pin : Pin} {b : Binding} {f : Byte} {r : StorageRef} : i = .register pin b f r →
      s.phaseOf i = some (.line 4) → k = s.fg.slot →
      SlotWrite s i k { s.slot k with pin := pin, attached := true }
  | detach : i = .unregister k → SlotWrite s i k { s.slot k with attached := false }
  | release : i = .unregister k → s.phaseOf i = some (.line 2) → SlotWrite s i k { s.slot k with claimed := false }
  | clear : i = .clearReady k → SlotWrite s i k { s.slot k with ready := false }

/-- A write of slot `j`, seen from slot `k`. -/
theorem SlotWrite.of_set {s : State} {i : Instr} {j : Nat} {x : Slot} (k : Nat) (h : k = j → SlotWrite s i k x) :
    SlotWrite s i k ((s.setSlot j x).slot k) := by
  rw [State.slot_setSlot]
  split
  · rename_i hk; exact h hk.1
  · exact .same

/-- Every foreground instruction writes slots as `SlotWrite` says, and the table keeps its length (R11, R18). -/
theorem exec_slotWrite {i : Instr} {s t : State} (h : exec i s = .next t) (hi : ∀ k, i ≠ .irqBody k) :
    t.slots.length = s.slots.length ∧ ∀ k, SlotWrite s i k (t.slot k) := by
  have hq : t.slots = s.slots → t.slots.length = s.slots.length ∧ ∀ k, SlotWrite s i k (t.slot k) := by
    intro e
    refine ⟨by rw [e], fun k => ?_⟩
    have : t.slot k = s.slot k := by simp [State.slot, e]
    rw [this]; exact .same
  have hw : ∀ j x, t.slots = (s.setSlot j x).slots → (∀ k, k = j → SlotWrite s i k x) →
      t.slots.length = s.slots.length ∧ ∀ k, SlotWrite s i k (t.slot k) := by
    intro j x e h
    refine ⟨by rw [e]; simp, fun k => ?_⟩
    have : t.slot k = (s.setSlot j x).slot k := by simp [State.slot, e]
    rw [this]; exact .of_set k (h k)
  have qq := quiet_slots
  cases i with
  | register pin b feed1 r =>
    obtain ⟨-, p, hp, -, h⟩ := State.accept_next h
    have hl : ∀ n, (n = 3 ∨ n = 4 → s.phaseOf (.register pin b feed1 r) = some (.line n)) →
        registerLine pin b feed1 r s n = .next t →
        t.slots.length = s.slots.length ∧ ∀ k, SlotWrite s (.register pin b feed1 r) k (t.slot k) := by
      intro n hn h
      unfold registerLine at h
      split at h
      · split at h <;> injection h with h <;> subst h <;> exact hq rfl
      · split at h <;> injection h with h <;> subst h <;> exact hq rfl
      · split at h
        · cases h
        · injection h with h; subst h
          exact hw s.fg.slot _ rfl fun k hk => by subst hk; exact .claim rfl (hn (.inl rfl)) rfl
      · injection h with h; subst h
        exact hw s.fg.slot _ rfl fun k hk => by subst hk; exact .attach rfl (hn (.inr rfl)) rfl
      · injection h with h; subst h; exact hq (qq.writeThen _ _ _ _ _ fun u => qq.goto u _ _)
      · injection h with h; subst h; exact hq (qq.writeThen _ _ _ _ _ fun u => qq.goto u _ _)
      · injection h with h; subst h; exact hq (qq.writeThen _ _ _ _ _ fun u => qq.goto u _ _)
      · injection h with h; subst h; exact hq rfl
      · cases h
    cases p <;> first | exact hl _ (fun hn => by omega) h | exact hl _ (fun _ => hp) h | cases h
  | unregister j =>
    obtain ⟨-, p, hp, -, h⟩ := State.accept_next h
    have hl : ∀ n, (n = 2 → s.phaseOf (.unregister j) = some (.line n)) → unregisterLine j s n = .next t →
        t.slots.length = s.slots.length ∧ ∀ k, SlotWrite s (.unregister j) k (t.slot k) := by
      intro n hn h
      unfold unregisterLine at h
      split at h
      · injection h with h; subst h
        cases ha : (s.slot j).attached with
        | true =>
          exact hw j { s.slot j with attached := false } (by simp [State.detach, ha, State.setAttached, State.goto])
            fun k hk => by subst hk; exact .detach rfl
        | false => exact hq (by simp [State.detach, ha, State.goto])
      · injection h with h; subst h
        exact hw j _ rfl fun k hk => by subst hk; exact .release rfl (hn rfl)
      · injection h with h; subst h; exact hq rfl
      · cases h
    cases p <;> first | exact hl _ (fun hn => by omega) h | exact hl _ (fun _ => hp) h | cases h
  | clearReady j =>
    obtain ⟨-, p, -, -, h⟩ := State.accept_next h
    injection h with h; subst h
    exact hw j _ rfl fun k hk => by subst hk; exact .clear rfl
  | rapRead b reg count =>
    obtain ⟨-, p, -, -, h⟩ := State.accept_next h
    injection h with h; subst h
    exact hq (qq.readThen _ _ _ _ _ fun bytes u => qq.ret u _)
  | rapWrite b reg v =>
    obtain ⟨-, p, -, -, h⟩ := State.accept_next h
    injection h with h; subst h
    exact hq (qq.writeThen _ _ _ _ _ fun u => qq.ret u _)
  | eraRead b feed1 addr n =>
    obtain ⟨-, p, -, -, h⟩ := State.accept_next h
    exact hq (eraReadPhase_quiet qq h)
  | eraWrite b feed1 addr v =>
    obtain ⟨-, p, -, -, h⟩ := State.accept_next h
    exact hq (eraWritePhase_quiet qq h)
  | consumeReady k =>
    obtain ⟨-, p, -, -, h⟩ := State.accept_next h
    injection h with h; subst h
    refine hq ?_
    rw [State.ret_slots]
    unfold State.coverSample
    split <;> rfl
  | cmdReserved low => cases h
  | irqBody k => exact absurd rfl (hi k)
  | decodeAbs b0 b1 b2 b3 b4 b5 => injection h with h; subst h; exact hq rfl
  | decodeRel b0 b1 b2 b3 => injection h with h; subst h; exact hq rfl
  | rapcmdRead b a => rw [(State.onBus_next h).2] at *; exact hq (by simp)
  | rapcmdWrite b a => rw [(State.onBus_next h).2] at *; exact hq (by simp)
  | eraCtrlReadInc b => rw [(State.onBus_next h).2] at *; exact hq (by simp)
  | eraCtrlWrite b => rw [(State.onBus_next h).2] at *; exact hq (by simp)
  | eraCtrlDone b =>
    refine hq ?_
    rw [(State.onBus_next h).2]
    split
    · rfl
    · split <;> simp
  | feedDisable b feed1 =>
    obtain ⟨-, p, -, -, h⟩ := State.accept_next h
    injection h with h; subst h
    exact hq (qq.writeThen _ _ _ _ _ fun u => qq.ret u _)
  | feedEnable b feed1 =>
    obtain ⟨-, p, -, -, h⟩ := State.accept_next h
    injection h with h; subst h
    exact hq (qq.writeThen _ _ _ _ _ fun u => qq.ret u _)
  | clearFlags b =>
    obtain ⟨-, p, -, -, h⟩ := State.accept_next h
    injection h with h; subst h
    exact hq (qq.writeThen _ _ _ _ _ fun u => qq.ret u _)
  | eraPoll b =>
    obtain ⟨-, p, -, -, h⟩ := State.accept_next h
    refine hq ?_
    cases p <;> dsimp only at h <;> try cases h
    · rw [(State.eraGuard_next h).2]
      exact (qq.pollThen _ _ _ _ (fun u => qq.ret u _)).trans (qq.setFg s _)
    · rw [(State.eraGuard_next h).2]
      exact qq.pollThen _ _ _ _ (fun u => qq.ret u _)

end Sys2Proof.Machine
end

