-- ==== Sys2Proof/Laws/Body.lean ====
section
/-! SUPPORT. What a step of IRQ_BODY is (R122, R131), what it changes of the vectors, and what a sensor's new
sample leaves alone (R141). -/

namespace Sys2Proof.Machine

/-- A step of IRQ_BODY that answers a next state is the dispatch R147 allows or one of the five steps. -/
theorem execIrqBody_next {i : Nat} {s t : State} (h : exec (.irqBody i) s = .next t) :
    i < s.cfg.nSlots ∧
    (((s.vec i).ph = .idle ∧ s.canDispatch i = true ∧ t = s.dispatchVector i) ∨
     ((s.vec i).ph = .read ∧ t = s.bodyRead i) ∨
     ((s.vec i).ph = .stamp ∧ t = s.bodyStamp i) ∨
     ((s.vec i).ph = .clear ∧ t = s.bodyClear i) ∨
     ((s.vec i).ph = .decode ∧ t = s.bodyDecode i) ∨
     ((s.vec i).ph = .setReady ∧ t = s.bodySetReady i)) := by
  simp only [exec, execIrqBody] at h
  split at h
  · cases h
  · rename_i hr
    refine ⟨by simpa [operandRefusal] using hr, ?_⟩
    cases hp : (s.vec i).ph <;> simp only [hp] at h
    · split at h
      · rename_i hc; injection h with h; exact .inl ⟨rfl, hc, h.symm⟩
      · cases h
    all_goals (injection h with h; simp [h])

/-- A body whose vector is one of the table's answers a next state: it never stops (R131). -/
theorem execIrqBody_runs {i : Nat} {s : State} (hi : i < s.cfg.nSlots) (hp : (s.vec i).ph ≠ .idle) :
    ∃ t, exec (.irqBody i) s = .next t := by
  simp only [exec, execIrqBody, operandRefusal, hi, if_true]
  cases h : (s.vec i).ph <;> simp_all

/-- A failing body changes no vector but its own, and sets that one's latch. -/
theorem State.vecFail_vecs (s : State) (i : Nat) :
    (s.vecFail i).vecs = s.vecs.set i { s.vec i with fault := true, ph := .idle } := by
  simp only [State.vecFail, State.returnVector, State.latchFault]
  by_cases hl : i < s.vecs.length
  · simp [State.vec, State.setVec, List.getD, hl, List.set_set]
  · simp [State.setVec, List.set_eq_of_length_le (Nat.le_of_not_lt hl)]

/-- A step of a body writes its own vector only, and never clears a fault latch (R121, R36). -/
theorem execIrqBody_vecs {i : Nat} {s t : State} (h : exec (.irqBody i) s = .next t) :
    ∃ x, t.vecs = s.vecs.set i x ∧ (x.fault = false → (s.vec i).fault = false) := by
  obtain ⟨-, ⟨-, -, rfl⟩ | ⟨-, rfl⟩ | ⟨-, rfl⟩ | ⟨-, rfl⟩ | ⟨-, rfl⟩ | ⟨-, rfl⟩⟩ := execIrqBody_next h
  · refine ⟨_, rfl, fun h => h⟩
  · unfold State.bodyRead
    dsimp only
    split
    · exact ⟨_, by rw [State.vecGoto, State.setVec_vecs, State.setSlot_vecs, State.memRead_vecs],
        by simp [State.vec]⟩
    · exact ⟨_, by rw [State.vecFail_vecs, State.setSlot_vecs, State.memRead_vecs], by simp⟩
  · exact ⟨_, by rw [State.bodyStamp, State.vecGoto, State.setVec_vecs, State.setSample_vecs], by simp [State.vec]⟩
  · unfold State.bodyClear
    dsimp only
    split
    · exact ⟨_, by rw [State.vecGoto, State.setVec_vecs, State.memWrite_vecs], by simp [State.vec]⟩
    · exact ⟨_, by rw [State.vecFail_vecs, State.memWrite_vecs], by simp⟩
  · exact ⟨_, by rw [State.bodyDecode, State.vecGoto, State.setVec_vecs, State.setSample_vecs], by simp [State.vec]⟩
  · exact ⟨_, by rw [State.bodySetReady, State.returnVector, State.setVec_vecs, State.setReady, State.setSlot_vecs],
      by simp [State.vec]⟩

/-- A body's step leaves every other vector as it was (R121). -/
theorem execIrqBody_vec_other {i j : Nat} {s t : State} (h : exec (.irqBody i) s = .next t) (hj : j ≠ i) :
    t.vec j = s.vec j := by
  obtain ⟨x, hx, -⟩ := execIrqBody_vecs h
  simp [State.vec, hx, List.getD, List.getElem?_set_ne hj.symm]

/-- A step of a body leaves the foreground, the answers, the interrupt enable and the outside world's record alone (R121,
R148). -/
theorem execIrqBody_outside {i : Nat} {s t : State} (h : exec (.irqBody i) s = .next t) :
    (t.cfg, t.ie, t.fg, t.port, t.result, t.fnResult, t.moves, t.answers, t.clock, t.loaded, t.patience) =
      (s.cfg, s.ie, s.fg, s.port, s.result, s.fnResult, s.moves, s.answers, s.clock, s.loaded, s.patience) := by
  obtain ⟨-, ⟨-, -, rfl⟩ | ⟨-, rfl⟩ | ⟨-, rfl⟩ | ⟨-, rfl⟩ | ⟨-, rfl⟩ | ⟨-, rfl⟩⟩ := execIrqBody_next h
  · rfl
  · unfold State.bodyRead
    dsimp only
    split <;> simp [State.vecGoto, State.vecFail, State.returnVector, State.latchFault]
  · rfl
  · unfold State.bodyClear
    dsimp only
    split <;> simp [State.vecGoto, State.vecFail, State.returnVector, State.latchFault]
  · rfl
  · rfl

/-- No instruction changes the parameters, the moves, the free values still to come, the step count, what was read, the
port or the wait for a dispatch (R5, R147). -/
theorem exec_outside {i : Instr} {s t : State} (h : exec i s = .next t) :
    (t.cfg, t.moves, t.answers, t.clock, t.loaded, t.port, t.patience) =
      (s.cfg, s.moves, s.answers, s.clock, s.loaded, s.port, s.patience) := by
  by_cases hi : ∃ k, i = .irqBody k
  · obtain ⟨k, rfl⟩ := hi
    have := execIrqBody_outside h
    simp only [Prod.mk.injEq] at this ⊢
    tauto
  · have := exec_apart apart_vecs h fun k e => hi ⟨k, e⟩
    simp only [Prod.mk.injEq] at this ⊢
    tauto

/-- What a step of a body may do to its own slot, and in which phase: READ changes `raw`, the last step sets `ready`
(R15, R16, R121, R122). -/
inductive BodySlotWrite (s : State) (i : Nat) : Slot → Prop where
  | same : BodySlotWrite s i (s.slot i)
  | read (x : Raw) : (s.vec i).ph = .read → BodySlotWrite s i { s.slot i with raw := x }
  | ready : (s.vec i).ph = .setReady → BodySlotWrite s i { s.slot i with ready := true }

/-- A step of a body leaves every other slot as it was and the table at its length (R121, R117 (3)). -/
theorem execIrqBody_slotWrite {i : Nat} {s t : State} (h : exec (.irqBody i) s = .next t) :
    t.slots.length = s.slots.length ∧ BodySlotWrite s i (t.slot i) ∧ ∀ j, j ≠ i → t.slot j = s.slot j := by
  have hq : t.slots = s.slots →
      t.slots.length = s.slots.length ∧ BodySlotWrite s i (t.slot i) ∧ ∀ j, j ≠ i → t.slot j = s.slot j := by
    intro e
    have : ∀ k, t.slot k = s.slot k := fun k => by simp [State.slot, e]
    exact ⟨by rw [e], by rw [this]; exact .same, fun j _ => this j⟩
  have hw : ∀ x, t.slots = (s.setSlot i x).slots → BodySlotWrite s i x →
      t.slots.length = s.slots.length ∧ BodySlotWrite s i (t.slot i) ∧ ∀ j, j ≠ i → t.slot j = s.slot j := by
    intro x e hx
    have : ∀ k, t.slot k = (s.setSlot i x).slot k := fun k => by simp [State.slot, e]
    refine ⟨by rw [e]; simp, ?_, fun j hj => by rw [this, State.slot_setSlot_other s x hj]⟩
    rw [this, State.slot_setSlot]
    split
    · exact hx
    · exact .same
  obtain ⟨-, ⟨-, -, rfl⟩ | ⟨hp, rfl⟩ | ⟨-, rfl⟩ | ⟨-, rfl⟩ | ⟨-, rfl⟩ | ⟨hp, rfl⟩⟩ := execIrqBody_next h
  · exact hq rfl
  · have hb : ∃ x, (s.bodyRead i).slots = (s.setSlot i { s.slot i with raw := x }).slots := by
      unfold State.bodyRead
      dsimp only
      split
      · exact ⟨_, by rw [State.vecGoto, State.setVec_slots, State.setSlot_slots, State.memRead_slots,
          State.memRead_slot, State.setSlot_slots]⟩
      · exact ⟨_, by rw [State.vecFail, State.returnVector, State.latchFault, State.setVec_slots, State.setVec_slots,
          State.setSlot_slots, State.memRead_slots, State.memRead_slot, State.setSlot_slots]⟩
    obtain ⟨x, hx⟩ := hb
    exact hw _ hx (.read x hp)
  · exact hq rfl
  · refine hq ?_
    unfold State.bodyClear
    dsimp only
    split <;> simp [State.vecGoto, State.vecFail, State.returnVector, State.latchFault]
  · exact hq rfl
  · exact hw _ rfl (.ready hp)

theorem storePacket_keeps {α : Type} (f : State → α) (hw : ∀ s b r v, f (State.setWindow s b r v) = f s) (b : Binding)
    (k : Nat) (bytes : List Byte) (s : State) : f (storePacket b k bytes s) = f s := by
  induction bytes generalizing k s with
  | nil => rfl
  | cons v vs ih => rw [storePacket, ih, hw]

/-- Packet bytes change no sensor's hidden state. -/
theorem storePacket_sensor (b b' : Binding) (k : Nat) (bytes : List Byte) (s : State) :
    (storePacket b k bytes s).sensor b' = s.sensor b' :=
  storePacket_keeps (·.sensor b') (fun _ _ _ _ => rfl) b k bytes s

/-- Packet bytes change no byte but those of their registers (R31). -/
theorem storePacket_byteAt_other (b : Binding) (k : Nat) (bytes : List Byte) (s : State) (a : Nat)
    (h : ∀ j, k ≤ j → j < k + bytes.length → a ≠ windowAddr b (s.cfg.regPktBase + BitVec.ofNat 5 j)) :
    (storePacket b k bytes s).byteAt a = s.byteAt a := by
  induction bytes generalizing k s with
  | nil => rfl
  | cons v vs ih =>
    rw [storePacket, ih]
    · exact State.byteAt_setByte_other _ _ (h k (by omega) (by simp))
    · intro j h1 h2; exact h j (by omega) (by simp at h2 ⊢; omega)

/-- Packet byte `j` stands in the packet's register `j` (R31); the packet lies in the window (R6). -/
theorem storePacket_window (b : Binding) (k : Nat) (bytes : List Byte) (s : State) (hk : k + bytes.length ≤ absLen)
    (hp : s.cfg.regPktBase.toNat + absLen ≤ 32) (j : Nat) (v : Byte) (hj : bytes[j]? = some v) :
    (storePacket b k bytes s).window b (s.cfg.regPktBase + BitVec.ofNat 5 (k + j)) = some v := by
  induction bytes generalizing k s j with
  | nil => simp at hj
  | cons w vs ih =>
    simp only [absLen, List.length_cons] at hk hp
    rw [storePacket]
    cases j with
    | zero =>
      simp only [List.getElem?_cons_zero, Option.some.injEq] at hj
      subst hj
      refine (storePacket_byteAt_other b (k + 1) vs _ _ fun j h1 h2 => windowAddr_ne b fun e => ?_).trans
        (State.window_setWindow_same s b _ _)
      have e' := congrArg BitVec.toNat e
      simp [BitVec.toNat_add] at e'
      omega
    | succ j =>
      have := ih (k + 1) (s.setWindow b (s.cfg.regPktBase + BitVec.ofNat 5 k) (some w)) (by simp only [absLen]; omega) hp j
        (by simpa using hj)
      rw [Nat.add_assoc, Nat.add_comm 1 j] at this
      exact this

/-- A sensor's new sample changes nothing but window registers, that sensor and the latches (R141, R143). -/
theorem State.deviceSample_keeps {α : Type} (f : State → α) (hw : ∀ s b r v, f (State.setWindow s b r v) = f s)
    (hs : ∀ s b x, f (State.setSensor s b x) = f s) (he : ∀ s p, f (State.edge s p) = f s)
    (s : State) (b : Binding) (bytes : List Byte) : f (s.deviceSample b bytes) = f s := by
  have hl : ∀ u : State, f (u.raiseLine b) = f u := by
    intro u
    unfold State.raiseLine
    split
    · rfl
    · dsimp only
      split
      · rw [he, hs]
      · exact hs u b _
  unfold State.deviceSample
  split
  · rw [hl, hw, storePacket_keeps f hw]
  · rfl

end Sys2Proof.Machine
end

