-- ==== Sys2Proof/Laws/Sensor.lean ====
section
/-! SUPPORT. What one frame does to the sensor of its binding and to the bytes, said once for each frame: a write
frame (R84, R48), a read frame that passes the control register by (R83, R48), and a read frame of any register. -/

namespace Sys2Proof.Machine

/-- The register after the `j`-th from the next one on (R42). -/
theorem reg_next (r : Reg) (j : Nat) : r + 1 + BitVec.ofNat 5 j = r + BitVec.ofNat 5 (j + 1) := by
  have h1 : BitVec.toNat (1 : Reg) = 1 := rfl
  apply BitVec.eq_of_toNat_eq
  simp only [BitVec.toNat_add, BitVec.toNat_ofNat, h1]; omega

/-! Valid parameters (R6). -/

theorem Config.valid_nodup {c : Config} (h : c.valid = true) : c.namedRegs.Nodup := by
  simp only [Config.valid, Bool.and_eq_true, decide_eq_true_eq] at h; tauto

theorem Config.valid_codes {c : Config} (h : c.valid = true) :
    c.eraCtrlReadInc ≠ 0 ∧ c.eraCtrlWrite ≠ 0 ∧ c.eraCtrlReadInc ≠ c.eraCtrlWrite := by
  simp only [Config.valid, Bool.and_eq_true, decide_eq_true_eq] at h; tauto

/-- The seven named registers are pairwise distinct (R6). -/
theorem Config.valid_regs {c : Config} (h : c.valid = true) :
    c.regStatus ≠ c.regFeed1 ∧ c.regStatus ≠ c.regEraValue ∧ c.regStatus ≠ c.regEraAddrHi ∧
    c.regStatus ≠ c.regEraAddrLo ∧ c.regStatus ≠ c.regEraCtrl ∧ c.regFeed1 ≠ c.regEraValue ∧
    c.regFeed1 ≠ c.regEraAddrHi ∧ c.regFeed1 ≠ c.regEraAddrLo ∧ c.regFeed1 ≠ c.regEraCtrl ∧
    c.regEraValue ≠ c.regEraAddrHi ∧ c.regEraValue ≠ c.regEraAddrLo ∧ c.regEraValue ≠ c.regEraCtrl ∧
    c.regEraAddrHi ≠ c.regEraAddrLo ∧ c.regEraAddrHi ≠ c.regEraCtrl ∧ c.regEraAddrLo ≠ c.regEraCtrl := by
  have := Config.valid_nodup h
  simp only [Config.namedRegs, List.nodup_cons, List.mem_cons, not_or] at this
  tauto

/-- A named register stands outside the packet (R6). -/
theorem Config.valid_packet {c : Config} (h : c.valid = true) :
    c.regPktBase.toNat + absLen ≤ 32 ∧
    ∀ r ∈ c.namedRegs, r.toNat < c.regPktBase.toNat ∨ c.regPktBase.toNat + absLen ≤ r.toNat := by
  simp only [Config.valid, Bool.and_eq_true, decide_eq_true_eq, List.all_eq_true, Bool.or_eq_true] at h
  tauto

/-- No packet register is the control register (R6). -/
theorem Config.valid_packet_ctrl {c : Config} (h : c.valid = true) {j : Nat} (hj : j < absLen) :
    c.regPktBase + BitVec.ofNat 5 j ≠ c.regEraCtrl := by
  obtain ⟨hb, hn⟩ := Config.valid_packet h
  have := hn c.regEraCtrl (by simp [Config.namedRegs])
  intro e
  have e' := congrArg BitVec.toNat e
  simp only [absLen] at *
  simp only [BitVec.toNat_add, BitVec.toNat_ofNat] at e'
  omega

/-- Disabling the feed leaves the enable bit clear, enabling it leaves it set (R90, R91, D4). -/
theorem Config.valid_feed {c : Config} (h : c.valid = true) (f : Byte) :
    feedEnabled c (feedOffByte c f) = false ∧ feedEnabled c (feedOnByte c f) = true := by
  have hm : oneHotBytes.contains c.feed1EnMask = true := by
    simp only [Config.valid, Bool.and_eq_true] at h; tauto
  have hne : c.feed1EnMask ≠ 0 := by
    intro e; rw [e] at hm; exact absurd hm (by decide)
  constructor
  · have e : f &&& ~~~c.feed1EnMask &&& c.feed1EnMask = 0 := by rw [BitVec.and_assoc]; simp
    simp [feedEnabled, feedOffByte, e]
  · have e : (f ||| c.feed1EnMask) &&& c.feed1EnMask = c.feed1EnMask := by
      apply BitVec.eq_of_getLsbD_eq
      intro i hi
      simp only [BitVec.getLsbD_and, BitVec.getLsbD_or]
      cases c.feed1EnMask.getLsbD i <;> simp
    simp only [feedEnabled, feedOnByte, e]
    simpa using hne

/-! A write frame. -/

@[simp] theorem State.endFrame_byteAt (s : State) (b : Binding) (a : Nat) : (s.endFrame b).byteAt a = s.byteAt a := rfl

@[simp] theorem State.record_byteAt (s : State) (e : FrameEvent) (a : Nat) : (s.record e).byteAt a = s.byteAt a := rfl

@[simp] theorem State.setSensor_byteAt (s : State) (b : Binding) (x : Sensor) (a : Nat) :
    (s.setSensor b x).byteAt a = s.byteAt a := rfl

@[simp] theorem State.setFg_sensor (s : State) (x : Fg) (b : Binding) : (s.setFg x).sensor b = s.sensor b := rfl

@[simp] theorem State.ret_sensor (s : State) (r : Result) (b : Binding) : (s.ret r).sensor b = s.sensor b := rfl

@[simp] theorem State.goto_sensor (s : State) (i : Instr) (p : Phase) (b : Binding) :
    (s.goto i p).sensor b = s.sensor b := rfl

@[simp] theorem State.ret_byteAt (s : State) (r : Result) (a : Nat) : (s.ret r).byteAt a = s.byteAt a := rfl

@[simp] theorem State.setFg_byteAt (s : State) (x : Fg) (a : Nat) : (s.setFg x).byteAt a = s.byteAt a := rfl

@[simp] theorem State.goto_byteAt (s : State) (i : Instr) (p : Phase) (a : Nat) :
    (s.goto i p).byteAt a = s.byteAt a := rfl

@[simp] theorem State.sensorCommand_byteAt (s : State) (b : Binding) (cmd : Byte) (a : Nat) :
    (s.sensorCommand b cmd).byteAt a = s.byteAt a := by
  simp [State.byteAt]

/-- The sensor after a write frame: the store's effect, the pointer at the register, awaiting a command. -/
theorem State.sensorWrite_sensor (s : State) (b : Binding) (reg : Reg) (v : Byte) (h : s.cfg.valid = true) :
    ∃ hi lo, (s.sensorWrite b reg v).sensor b =
      { sensorAfterStore s.cfg hi lo reg v (s.sensor b) with ptr := reg, dir := .idle } := by
  rw [State.sensorWrite_eq s b reg v h]
  simp only [State.endFrame, State.sensor_setSensor_same]
  rw [State.deviceStore_sensor]
  exact ⟨_, _, by simp only [State.sensor_setSensor_same, sensorAfterStore, State.setSensor_cfg]; rfl⟩

/-- The target address after a write frame: the two address bytes as they then stand, if the frame wrote one of them,
and else the target before it (R30, R43). -/
theorem State.sensorWrite_target (s : State) (b : Binding) (reg : Reg) (v : Byte) (h : s.cfg.valid = true) :
    ((s.sensorWrite b reg v).sensor b).target =
      if reg = s.cfg.regEraAddrHi ∨ reg = s.cfg.regEraAddrLo then
        addrOf (((s.sensorWrite b reg v).window b s.cfg.regEraAddrHi).getD 0)
          (((s.sensorWrite b reg v).window b s.cfg.regEraAddrLo).getD 0)
      else (s.sensor b).target := by
  rw [State.sensorWrite_eq s b reg v h]
  simp only [State.endFrame, State.sensor_setSensor_same]
  rw [State.deviceStore_sensor]
  simp only [sensorAfterStore, State.sensor_setSensor_same, State.setSensor_cfg]
  rfl

/-- A write frame changes no sensor but its own. -/
theorem State.sensorWrite_sensor_other (s : State) {b b' : Binding} (reg : Reg) (v : Byte)
    (h : sensorKey b' ≠ sensorKey b) : (s.sensorWrite b reg v).sensor b' = s.sensor b' := by
  simp only [State.sensorWrite, State.endFrame]
  rw [State.sensor_setSensor_other _ _ h, State.deviceStore_sensor_other _ _ _ h]
  unfold State.sensorCommand
  split
  · rw [State.sensor_setSensor_other _ _ h]
  · split
    · rw [State.sensor_setSensor_other _ _ h]
    · rfl

/-! A read frame. -/

theorem State.completeAccess_sensor_other (s : State) {b b' : Binding} (h : sensorKey b' ≠ sensorKey b) :
    (s.completeAccess b).sensor b' = s.sensor b' := by
  simp only [State.completeAccess]
  rw [State.sensor_setSensor_other _ _ h]
  split
  · rfl
  · split <;> rfl

theorem State.afterByte_sensor_other (s : State) {b b' : Binding} (drawn : Byte) (h : sensorKey b' ≠ sensorKey b) :
    (s.afterByte b drawn).sensor b' = s.sensor b' := by
  simp only [State.afterByte]
  rw [State.sensor_setSensor_other _ _ h]
  split
  · exact State.completeAccess_sensor_other s h
  · rfl

theorem deviceSupply_sensor_other {b b' : Binding} (n k : Nat) (s : State) (h : sensorKey b' ≠ sensorKey b) :
    (deviceSupply b n k s).2.sensor b' = s.sensor b' := by
  induction n generalizing k s with
  | zero => rfl
  | succ n ih => simp only [deviceSupply]; rw [ih, State.afterByte_sensor_other _ _ h]

/-- A read frame changes no sensor but its own. -/
theorem State.memRead_sensor_other (s : State) {b b' : Binding} (reg : Reg) (n : Nat)
    (h : sensorKey b' ≠ sensorKey b) : (s.memRead b reg n).2.sensor b' = s.sensor b' := by
  have hc : (s.sensorCommand b (readCommand s.cfg reg)).sensor b' = s.sensor b' := by
    unfold State.sensorCommand
    split
    · rw [State.sensor_setSensor_other _ _ h]
    · split
      · rw [State.sensor_setSensor_other _ _ h]
      · rfl
  simp only [State.memRead, State.endFrame]
  split
  · split
    · simp only [State.record_sensor]; rw [State.sensor_setSensor_other _ _ h, hc]
    · rfl
  · simp only [State.record_sensor]
    rw [State.sensor_setSensor_other _ _ h, deviceSupply_sensor_other _ _ _ h, hc]

/-- A byte read elsewhere than at the control register completes nothing: the pointer advances (R33). -/
theorem State.afterByte_plain (s : State) (b : Binding) (drawn : Byte) (h : (s.sensor b).ptr ≠ s.cfg.regEraCtrl) :
    s.afterByte b drawn = s.setSensor b { s.sensor b with ptr := (s.sensor b).ptr + 1 } := by
  simp [State.afterByte, State.completesOnRead, h]

/-- So does a byte read while no access is in progress. -/
theorem State.afterByte_noAccess (s : State) (b : Binding) (drawn : Byte) (h : (s.sensor b).pend = 0) :
    s.afterByte b drawn = s.setSensor b { s.sensor b with ptr := (s.sensor b).ptr + 1 } := by
  simp [State.afterByte, State.completesOnRead, h]

/-- Bytes read elsewhere than at the control register change no byte and of the sensor only the pointer. -/
theorem deviceSupply_plain (b : Binding) (n k : Nat) (s : State)
    (h : ∀ j, j < n → (s.sensor b).ptr + BitVec.ofNat 5 j ≠ s.cfg.regEraCtrl) :
    (deviceSupply b n k s).2.mem = s.mem ∧
    (deviceSupply b n k s).2.sensor b = { s.sensor b with ptr := (s.sensor b).ptr + BitVec.ofNat 5 n } := by
  induction n generalizing k s with
  | zero => simp [deviceSupply]
  | succ n ih =>
    have h0 : (s.sensor b).ptr ≠ s.cfg.regEraCtrl := by simpa using h 0 (by omega)
    simp only [deviceSupply]
    rw [State.afterByte_plain s b _ h0]
    obtain ⟨hm, hs⟩ := ih (k + 1) (s.setSensor b { s.sensor b with ptr := (s.sensor b).ptr + 1 }) (by
      intro j hj
      simp only [State.sensor_setSensor_same, State.setSensor_cfg]
      rw [reg_next]; exact h (j + 1) (by omega))
    refine ⟨by rw [hm]; rfl, ?_⟩
    rw [hs]
    simp only [State.sensor_setSensor_same, reg_next]

/-- A read frame that passes the control register by changes no byte, and of the sensor only the pointer and what
it takes the next byte for (R48: reading has no side effect). -/
theorem State.memRead_plain (s : State) (b : Binding) (reg : Reg) (n : Nat) (hv : s.cfg.valid = true)
    (h : ∀ j, j < n → reg + BitVec.ofNat 5 j ≠ s.cfg.regEraCtrl) :
    (s.memRead b reg n).2.mem = s.mem ∧
    ((s.memRead b reg n).2.sensor b).target = (s.sensor b).target ∧
    ((s.memRead b reg n).2.sensor b).pend = (s.sensor b).pend ∧
    ((s.memRead b reg n).2.sensor b).feed = (s.sensor b).feed ∧
    ((s.memRead b reg n).2.sensor b).line = (s.sensor b).line := by
  simp only [State.memRead, State.sensorCommand_read s b reg hv]
  split
  · split <;> simp [State.endFrame]
  · have := deviceSupply_plain b n 0 (s.setSensor b { s.sensor b with ptr := reg, dir := .reading })
      (by simpa using h)
    simp only [State.record_mem, State.record_sensor, State.endFrame, State.setSensor_mem,
      State.sensor_setSensor_same]
    rw [this.1, this.2]
    simp

/-- Bytes read while no access is in progress change no byte, start no access and leave the target (R48). -/
theorem deviceSupply_noAccess (b : Binding) (n k : Nat) (s : State) (h : (s.sensor b).pend = 0) :
    (deviceSupply b n k s).2.mem = s.mem ∧ ((deviceSupply b n k s).2.sensor b).pend = 0 ∧
    ((deviceSupply b n k s).2.sensor b).target = (s.sensor b).target := by
  induction n generalizing k s with
  | zero => exact ⟨rfl, h, rfl⟩
  | succ n ih =>
    simp only [deviceSupply]
    rw [State.afterByte_noAccess s b _ h]
    simpa using ih (k + 1) (s.setSensor b { s.sensor b with ptr := (s.sensor b).ptr + 1 }) (by simpa using h)

/-- A command byte moves the pointer and the direction of the sensor and nothing else of it (R62). -/
theorem State.sensorCommand_sensor (s : State) (b : Binding) (cmd : Byte) :
    ∃ r d, (s.sensorCommand b cmd).sensor b = { s.sensor b with ptr := r, dir := d } := by
  unfold State.sensorCommand
  split
  · exact ⟨_, _, State.sensor_setSensor_same s b _⟩
  · split
    · exact ⟨_, _, State.sensor_setSensor_same s b _⟩
    · exact ⟨_, _, rfl⟩

/-- A read frame while no access is in progress changes no byte, starts none and leaves the target (R48). -/
theorem State.memRead_noAccess (s : State) (b : Binding) (reg : Reg) (n : Nat) (h : (s.sensor b).pend = 0) :
    (s.memRead b reg n).2.mem = s.mem ∧ ((s.memRead b reg n).2.sensor b).pend = 0 ∧
    ((s.memRead b reg n).2.sensor b).target = (s.sensor b).target := by
  obtain ⟨r, d, hc⟩ := State.sensorCommand_sensor s b (readCommand s.cfg reg)
  simp only [State.memRead]
  split
  · split <;> simp [State.endFrame, hc, h]
  · have := deviceSupply_noAccess b n 0 (s.sensorCommand b (readCommand s.cfg reg)) (by simp [hc, h])
    simp [State.endFrame, this, hc]

/-- The bytes of plain storage, byte `j` being register `ptr + j` (R42, R88). -/
theorem deviceSupply_plainStorage (b : Binding) (n k : Nat) (s : State)
    (h : deviceModel s.cfg b = .plainStorage) :
    (deviceSupply b n k s).2.mem = s.mem ∧
    (deviceSupply b n k s).1 = (List.range n).map (fun j =>
      (s.window b ((s.sensor b).ptr + BitVec.ofNat 5 j)).getD (s.freeByte (k + j))) := by
  induction n generalizing k s with
  | zero => exact ⟨rfl, rfl⟩
  | succ n ih =>
    have ha : s.afterByte b (s.freeByte k) = s.setSensor b { s.sensor b with ptr := (s.sensor b).ptr + 1 } := by
      simp [State.afterByte, State.completesOnRead, h]
    simp only [deviceSupply, ha]
    obtain ⟨hm, hb⟩ := ih (k + 1) (s.setSensor b { s.sensor b with ptr := (s.sensor b).ptr + 1 }) (by simpa using h)
    refine ⟨by rw [hm]; rfl, ?_⟩
    rw [hb, List.range_succ_eq_map]
    simp only [State.presented, h, List.map_cons, List.map_map]
    congr 1
    · simp
    · apply List.map_congr_left
      intro j _
      simp only [Function.comp, State.sensor_setSensor_same]
      simp only [reg_next, State.window, State.setSensor_byteAt, State.freeByte, State.answer, State.setSensor_answers,
        State.setSensor_clock]
      rw [Nat.add_assoc, Nat.add_comm 1 j]

/-- The places a completed access may store at: the value, control and status registers and the target (R30,
R48). -/
theorem State.completeAccess_byteAt_other (s : State) (b : Binding) (a : Nat)
    (h1 : a ≠ windowAddr b s.cfg.regEraValue) (h2 : a ≠ windowAddr b s.cfg.regEraCtrl)
    (h3 : a ≠ windowAddr b s.cfg.regStatus) (h4 : a ≠ eraAddr b (s.sensor b).target) :
    (s.completeAccess b).byteAt a = s.byteAt a := by
  simp only [State.completeAccess, State.setSensor_byteAt]
  simp only [State.setWindow]
  rw [State.byteAt_setByte_other _ _ h3, State.byteAt_setByte_other _ _ h2]
  split
  · exact State.byteAt_setByte_other _ _ h1
  · split
    · rw [State.byteAt_setByte_other _ _ h1]; exact State.byteAt_setByte_other _ _ h4
    · rfl

/-- Bytes asked of a sensor change at most what a completed access stores: it completes once at most (R30, R48). -/
theorem deviceSupply_byteAt_other (b : Binding) (n k : Nat) (s : State) (a : Nat)
    (h1 : a ≠ windowAddr b s.cfg.regEraValue) (h2 : a ≠ windowAddr b s.cfg.regEraCtrl)
    (h3 : a ≠ windowAddr b s.cfg.regStatus) (h4 : a ≠ eraAddr b (s.sensor b).target) :
    (deviceSupply b n k s).2.byteAt a = s.byteAt a := by
  induction n generalizing k s with
  | zero => rfl
  | succ n ih =>
    simp only [deviceSupply]
    cases hc : s.completesOnRead b (s.freeByte k) with
    | true =>
      have hp : ((s.afterByte b (s.freeByte k)).sensor b).pend = 0 := by simp [State.afterByte, hc, State.completeAccess]
      have hm := (deviceSupply_noAccess b n (k + 1) _ hp).1
      simp only [State.byteAt, hm]
      show (s.afterByte b (s.freeByte k)).byteAt a = _
      simp only [State.afterByte, hc, if_true, State.setSensor_byteAt]
      exact State.completeAccess_byteAt_other s b a h1 h2 h3 h4
    | false =>
      have e : s.afterByte b (s.freeByte k) = s.setSensor b { s.sensor b with ptr := (s.sensor b).ptr + 1 } := by
        simp [State.afterByte, hc]
      rw [e]
      exact ih _ (s.setSensor b { s.sensor b with ptr := (s.sensor b).ptr + 1 }) h1 h2 h3 (by simpa using h4)

/-- A read frame changes at most what a completed access stores (R30, R48). -/
theorem State.memRead_byteAt_other (s : State) (b : Binding) (reg : Reg) (n a : Nat)
    (h1 : a ≠ windowAddr b s.cfg.regEraValue) (h2 : a ≠ windowAddr b s.cfg.regEraCtrl)
    (h3 : a ≠ windowAddr b s.cfg.regStatus) (h4 : a ≠ eraAddr b (s.sensor b).target) :
    (s.memRead b reg n).2.byteAt a = s.byteAt a := by
  obtain ⟨r, d, hc⟩ := State.sensorCommand_sensor s b (readCommand s.cfg reg)
  simp only [State.memRead]
  split
  · split <;> simp
  · simp only [State.record_byteAt, State.endFrame_byteAt]
    rw [deviceSupply_byteAt_other b n 0 _ a (by simpa using h1) (by simpa using h2) (by simpa using h3)
      (by simpa [hc] using h4)]
    simp

/-- A read frame leaves the data-ready line (R48). -/
theorem State.memRead_line (s : State) (b : Binding) (reg : Reg) (n : Nat) :
    ((s.memRead b reg n).2.sensor b).line = (s.sensor b).line := by
  obtain ⟨r, d, hc⟩ := State.sensorCommand_sensor s b (readCommand s.cfg reg)
  have hd : ∀ (n k : Nat) (s : State), ((deviceSupply b n k s).2.sensor b).line = (s.sensor b).line := by
    intro n
    induction n with
    | zero => intros; rfl
    | succ n ih =>
      intro k s
      simp only [deviceSupply]
      rw [ih]
      simp only [State.afterByte]
      split <;> simp [State.completeAccess]
  simp only [State.memRead]
  split
  · split <;> simp [State.endFrame, hc]
  · simp [State.endFrame, hc, hd]

/-! The data mode of a feed byte (R29, R178). -/

/-- The two feed masks share no bit (D4). -/
theorem Config.valid_masks {c : Config} (h : c.valid = true) : c.feed1EnMask &&& c.feed1AbsMask = 0 := by
  simp only [Config.valid, Bool.and_eq_true, decide_eq_true_eq] at h
  have h1 : c.feed1EnMask ∈ oneHotBytes := by simpa using (by tauto : oneHotBytes.contains c.feed1EnMask = true)
  have h2 : c.feed1AbsMask ∈ oneHotBytes := by simpa using (by tauto : oneHotBytes.contains c.feed1AbsMask = true)
  have h3 : c.feed1EnMask ≠ c.feed1AbsMask := by tauto
  revert h3
  have hall : ∀ e ∈ oneHotBytes, ∀ a ∈ oneHotBytes, e ≠ a → e &&& a = 0 := by decide
  exact hall _ h1 _ h2

/-- Disabling or enabling the feed keeps its data mode (R64, R90, R91). -/
theorem feedMode_keeps {c : Config} (h : c.valid = true) (f : Byte) :
    feedMode c (feedOffByte c f) = feedMode c f ∧ feedMode c (feedOnByte c f) = feedMode c f := by
  have hz := Config.valid_masks h
  have hb : ∀ i, (c.feed1EnMask.getLsbD i && c.feed1AbsMask.getLsbD i) = false := by
    intro i
    have := congrArg (fun x => x.getLsbD i) hz
    simpa using this
  have h1 : f &&& ~~~c.feed1EnMask &&& c.feed1AbsMask = f &&& c.feed1AbsMask := by
    apply BitVec.eq_of_getLsbD_eq
    intro i hi
    have := hb i
    simp only [BitVec.getLsbD_and, BitVec.getLsbD_not, hi, decide_true, Bool.true_and]
    revert this
    cases c.feed1EnMask.getLsbD i <;> cases c.feed1AbsMask.getLsbD i <;> simp
  have h2 : (f ||| c.feed1EnMask) &&& c.feed1AbsMask = f &&& c.feed1AbsMask := by
    apply BitVec.eq_of_getLsbD_eq
    intro i hi
    have := hb i
    simp only [BitVec.getLsbD_and, BitVec.getLsbD_or]
    revert this
    cases c.feed1EnMask.getLsbD i <;> cases c.feed1AbsMask.getLsbD i <;> simp
  simp only [feedMode, feedOffByte, feedOnByte, h1, h2, and_self]

/-- So a feed byte conflicts with an attached slot whether it disables or enables the feed (R178). -/
theorem State.modeConflict_keeps (s : State) (b : Binding) (f : Byte) (h : s.cfg.valid = true) :
    s.modeConflict b (feedOffByte s.cfg f) = s.modeConflict b f ∧
    s.modeConflict b (feedOnByte s.cfg f) = s.modeConflict b f := by
  simp [State.modeConflict, feedMode_keeps h f]

/-- What is refused depends on the slots, the storages and the parameters only (R178). -/
theorem State.modeConflict_congr {s t : State} (hc : t.cfg = s.cfg) (hs : t.slots = s.slots)
    (hm : t.samples = s.samples) (b : Binding) (v : Byte) : t.modeConflict b v = s.modeConflict b v := by
  have : ∀ r, t.sample r = s.sample r := fun r => by simp [State.sample, hm]
  simp only [State.modeConflict, hc, hs, this]

theorem State.modeRefusal_congr {s t : State} (hc : t.cfg = s.cfg) (hs : t.slots = s.slots)
    (hm : t.samples = s.samples) (i : Instr) : t.modeRefusal i = s.modeRefusal i := by
  cases i <;> simp only [State.modeRefusal, State.feedRefusal, State.modeConflict_congr hc hs hm, hc]

end Sys2Proof.Machine
end

