-- ==== Sys2Proof/Tests/Slice0.lean ====
section
/-! SUPPORT. Tests. Expected values are those of spec/95_test_vectors.md (V<n>) or worked by hand from the rule a
test names. A theorem witness_<Name> shows that the hypotheses of the obligation <Name> can be met together. -/

namespace Sys2Proof.Tests

open Sys2Proof Sys2Proof.Machine Sys2Proof.Claims

/-! Small states. -/

/-- The binding B0 of the standard environment. -/
abbrev b0 : Binding := ⟨0, 0x2A, 0⟩

/-- The binding B1 of the standard environment. -/
abbrev b1 : Binding := ⟨0, 0x2B, 0⟩

/-- A binding on a second bus. -/
abbrev bOther : Binding := ⟨1, 0x2A, 0⟩

/-- A frame that is done, with one zero byte where the device answers freely. -/
def okAnswer : Answer := ⟨false, false, [0], 7, true, 0, false, 0, 0⟩

/-- A frame that is done and gives byte `v`. -/
def giving (v : Byte) : Answer := ⟨false, false, [v], 7, true, 0, false, 0, 0⟩

/-- A frame that fails; the sensor did not take it. -/
def failing : Answer := ⟨true, false, [], 7, true, 0, false, 0, 0⟩

/-- The standard environment with devices of kind `d`, and a second bus. -/
def environment (d : DeviceModel) : Config :=
  { Config.standard with transports := [⟨0, .i2cStyle, d⟩, ⟨1, .spiStyle, d⟩] }

/-- Reset in that environment, with `as` for the coming free values. -/
def start (d : DeviceModel) (as : List Answer) : State := { State.resetWith (environment d) with answers := as }

/-- The reference simulated sensors, no frame failing. -/
def sim : State := start .refSim (List.replicate 20 okAnswer)

/-- Operation `i` in progress at phase `p`. -/
def standing (s : State) (i : Instr) (p : Phase) : State := { s with fg := ⟨some i, p, 0, [], 0, 0⟩ }

/-- An extended read that polls a busy device, with poll cap `cap`. -/
def polling (cap : Option Nat) : State :=
  standing { start .oracle [giving 0x05] with cfg := { environment .oracle with eraPollCap := cap } }
    (.eraRead b0 3 0 1) .poll

/-- A slot claimed for B0 with storage 0, on pin 2. -/
def liveSlot : Slot := ⟨true, 0x2A, 0, ⟨0x01, 0x00, 0x7F, 0x05, 0x30, 0x12⟩, 0, false, 0, 0, true, 2⟩

/-- Slot 0 is attached, its latch is set and interrupts are on. -/
def live : State := { sim with slots := sim.slots.set 0 liveSlot, pending := sim.pending.set 0 true, ie := true }

/-- The body of vector 0 is running and stands at phase `p`. -/
def inBody (p : VecPhase) : State := { live with
  pending := sim.pending, vecs := sim.vecs.set 0 { Vec.reset with ph := p, rbind := b0, wbind := b0 } }

/-- The owning instance has written the tag of storage `r`: ABSOLUTE. -/
def tagging (s : State) (r : StorageRef) : State := s.setSample r { Sample.reset with tagged := true }

/-- The storage is tagged and the sensor of `b1` was given feed byte `v`. -/
def configured (v : Byte) : State := (tagging live 5).setWindow b1 0x04 (some v)

/-- A part of the next state, if there is one. -/
def nextPart {α : Type} (o : Host.Outcome State Fault Refusal) (f : State → α) : Option α :=
  match o with
  | .next t => some (f t)
  | .fault _ => none
  | .refused _ => none

/-- The named fault, if the outcome is one. -/
def faultOf (o : Host.Outcome State Fault Refusal) : Option Fault :=
  match o with
  | .next _ => none
  | .fault f => some f
  | .refused _ => none

/-- The named refusal, if the outcome is one. -/
def refusalOf (o : Host.Outcome State Fault Refusal) : Option Refusal :=
  match o with
  | .next _ => none
  | .fault _ => none
  | .refused r => some r

/-! WellFormed refuses an ill-formed term for each check. -/

theorem test_wf_rapRead_transport : (Instr.rapRead ⟨9, 0x2A, 0⟩ 0x12 6).wf Config.standard = false := by decide
theorem test_wf_rapRead_zero : (Instr.rapRead b0 0x05 0).wf Config.standard = false := by decide
theorem test_wf_rapRead_count : (Instr.rapRead b0 0x00 33).wf Config.standard = false := by decide
theorem test_wf_rapRead_window : (Instr.rapRead b0 0x1F 2).wf Config.standard = false := by decide
theorem test_wf_rapRead_edge : (Instr.rapRead b0 0x1F 1).wf Config.standard = true := by decide
theorem test_wf_rapWrite : (Instr.rapWrite ⟨9, 0, 0⟩ 0 0).wf Config.standard = false := by decide
theorem test_wf_eraRead_transport : (Instr.eraRead ⟨9, 0, 0⟩ 0 0 0).wf Config.standard = false := by decide
theorem test_wf_eraRead_n : (Instr.eraRead b0 0 0 9).wf { Config.standard with eraMaxN := 8 } = false := by decide
theorem test_wf_eraRead_top : (Instr.eraRead b0 0x03 0xFFFF 2).wf Config.standard = false := by decide
theorem test_wf_eraWrite : (Instr.eraWrite ⟨9, 0, 0⟩ 0 0 0).wf Config.standard = false := by decide
theorem test_wf_register : (Instr.register 2 ⟨9, 0, 0⟩ 0 0).wf Config.standard = false := by decide
/-- R5, R65: an address, a speed and a pin that their fields cannot hold, and the widest ones they can. -/
theorem test_wf_widths :
    (Instr.rapWrite ⟨0, 256, 0⟩ 0 0).wf Config.standard = false ∧
    (Instr.rapWrite ⟨0, 0, 2 ^ 32⟩ 0 0).wf Config.standard = false ∧
    (Instr.register 256 b0 0 0).wf Config.standard = false ∧
    (Instr.register 255 ⟨0, 255, 2 ^ 32 - 1⟩ 0 0).wf Config.standard = true ∧
    (Instr.rapWrite ⟨0, 2 ^ 16 - 1, 0⟩ 0 0).wf { Config.standard with busAddrWidth := 16 } = true := by decide
theorem test_wf_slots :
    (Instr.unregister 4).wf Config.standard = false ∧ (Instr.consumeReady 4).wf Config.standard = false ∧
    (Instr.clearReady 4).wf Config.standard = false ∧ (Instr.irqBody 4).wf Config.standard = false := by decide
theorem test_wf_bus :
    (Instr.rapcmdRead ⟨9, 0, 0⟩ 0).wf Config.standard = false ∧
    (Instr.rapcmdWrite ⟨9, 0, 0⟩ 0).wf Config.standard = false ∧
    (Instr.eraCtrlReadInc ⟨9, 0, 0⟩).wf Config.standard = false ∧
    (Instr.eraCtrlWrite ⟨9, 0, 0⟩).wf Config.standard = false ∧
    (Instr.eraCtrlDone ⟨9, 0, 0⟩).wf Config.standard = false := by decide
theorem test_wf_pseudo :
    (Instr.feedDisable ⟨9, 0, 0⟩ 0).wf Config.standard = false ∧
    (Instr.feedEnable ⟨9, 0, 0⟩ 0).wf Config.standard = false ∧
    (Instr.clearFlags ⟨9, 0, 0⟩).wf Config.standard = false ∧
    (Instr.eraPoll ⟨9, 0, 0⟩).wf Config.standard = false := by decide
/-- R6: a marker with low bits set, two equal markers, a feed register inside the packet are no parameters. -/
theorem test_config_valid :
    Config.standard.valid = true ∧ { Config.standard with readMarker := 0xA1 }.valid = false ∧
    { Config.standard with readMarker := 0x80 }.valid = false ∧
    { Config.standard with regFeed1 := 0x13 }.valid = false := by decide

/-! Decoding, word by word from R62, R66, R68. -/

theorem test_decode_rapRead : decode Config.standard (.port { op := 0b0000, b := b0, reg := 0x12, count := 6 }) =
    .ok (.rapRead b0 0x12 6) := by decide
theorem test_decode_rapWrite : decode Config.standard (.port { op := 0b0001, b := b0, reg := 0x0A, data := 0x1E }) =
    .ok (.rapWrite b0 0x0A 0x1E) := by decide
theorem test_decode_eraRead :
    decode Config.standard (.port { op := 0b0010, b := b0, feed1 := 0x02, addr := 0x01FE, n := 3 }) =
      .ok (.eraRead b0 0x02 0x01FE 3) := by decide
theorem test_decode_eraWrite :
    decode Config.standard (.port { op := 0b0011, b := b0, feed1 := 0x03, addr := 0x0187, data := 0x5A }) =
      .ok (.eraWrite b0 0x03 0x0187 0x5A) := by decide
theorem test_decode_register :
    decode Config.standard (.port { op := 0b0100, pin := 2, b := b0, feed1 := 0x03, storage := 0 }) =
      .ok (.register 2 b0 0x03 0) := by decide
theorem test_decode_unregister : decode Config.standard (.port { op := 0b0101, slot := 3 }) = .ok (.unregister 3) := by
  decide
theorem test_decode_consumeReady :
    decode Config.standard (.port { op := 0b0110, slot := 1 }) = .ok (.consumeReady 1) := by decide
theorem test_decode_clearReady :
    decode Config.standard (.port { op := 0b0111, slot := 2 }) = .ok (.clearReady 2) := by decide
theorem test_decode_reserved : decode Config.standard (.port { op := 0b1111 }) = .ok (.cmdReserved 0b111) := by decide
theorem test_decode_commands :
    decode Config.standard (.busCommand b0 0b10111011) = .ok (.rapcmdRead b0 0x1B) ∧
    decode Config.standard (.busCommand b0 0b10000100) = .ok (.rapcmdWrite b0 0x04) ∧
    decode Config.standard (.busCommand b0 0b11000100) = .error .noMarker := by decide
theorem test_decode_codes :
    decode Config.standard (.eraCode b0 0x05) = .ok (.eraCtrlReadInc b0) ∧
    decode Config.standard (.eraCode b0 0x02) = .ok (.eraCtrlWrite b0) ∧
    decode Config.standard (.eraCode b0 0x00) = .ok (.eraCtrlDone b0) ∧
    decode Config.standard (.eraCode b0 0x07) = .error .unknownControlCode := by decide
/-- The command bytes of V2 and V9 (spec/95_test_vectors.md 3.1). -/
theorem test_encode_commands :
    readCommand Config.standard 0x12 = 0xB2 ∧ writeCommand Config.standard 0x0A = 0x8A := by decide
theorem test_table_words :
    decodeTableWord 8 0x01 = some (.rapWrite zeroBinding 0 0) ∧
    decodeTableWord 8 0x05 = some (.unregister 0) ∧ decodeTableWord 8 0x08 = some (.cmdReserved 0) ∧
    decodeTableWord 8 0xA0 = some (.rapcmdRead zeroBinding 0) ∧
    decodeTableWord 8 0x9F = some (.rapcmdWrite zeroBinding 0x1F) := by decide
/-- The word at the port is the first instruction after reset: UNREGISTER stands at its second line. -/
theorem test_first_instruction :
    nextPart (step (State.reset.withFetchWord 8 0x05)) (fun t => t.fg.ph) = some (.line 2) := by decide

/-! One step of each instruction. -/

/-- V3: the byte the register holds. -/
theorem test_rapRead : nextPart (exec (.rapRead b0 0x0A 1) (sim.setWindow b0 0x0A (some 0x1E))) (·.result) =
    some (some { st := .ok, rbytes := some [0x1E] }) := by decide
/-- V9: status 1 and no bytes. -/
theorem test_rapRead_failed : nextPart (exec (.rapRead b0 0x12 6) (start .refSim [failing])) (·.result) =
    some (some { st := .busTransactionFailed }) := by decide
/-- V2: one frame, and the register holds the byte. -/
theorem test_rapWrite : nextPart (exec (.rapWrite b0 0x0A 0x1E) sim) (fun t => (t.trace, t.window b0 0x0A)) =
    some ([.write b0 0x0A 0x1E], some 0x1E) := by decide
/-- V8: status 1, no second frame. -/
theorem test_rapWrite_failed :
    nextPart (exec (.rapWrite b0 0x04 0x03) (start .refSim [failing])) (fun t => (t.result, t.trace)) =
      some (some { st := .busTransactionFailed }, [.writeFailed b0 0x04 0x03]) := by decide
/-- V17: the first frame writes 0x02 to register 0x04. -/
theorem test_eraRead_start :
    nextPart (exec (.eraRead b0 0x03 0x0187 1) sim) (fun t => (t.trace, t.fg.ph)) =
      some ([.write b0 0x04 0x02], .addrHi) := by decide
/-- V19: no byte asked for, the third frame is the last. -/
theorem test_eraRead_none :
    nextPart (exec (.eraRead b0 0x03 0x1234 0) (standing sim (.eraRead b0 0x03 0x1234 0) .addrLo))
      (fun t => (t.trace, t.result)) =
    some ([.write b0 0x1D 0x34], some { st := .ok, rbytes := some [] }) := by decide
/-- V16: the value is written before the address. -/
theorem test_eraWrite_value :
    nextPart (exec (.eraWrite b0 0x03 0x0187 0x5A) (standing sim (.eraWrite b0 0x03 0x0187 0x5A) .valueW))
      (fun t => (t.trace, t.fg.ph)) = some ([.write b0 0x1B 0x5A], .addrHi) := by decide
/-- V21: a failure on the fourth frame returns status 1. -/
theorem test_eraWrite_failed :
    nextPart (exec (.eraWrite b0 0x03 0x0187 0x5A)
      (standing (start .refSim [failing]) (.eraWrite b0 0x03 0x0187 0x5A) .addrLo))
      (fun t => (t.trace, t.result)) =
    some ([.writeFailed b0 0x1D 0x87], some { st := .busTransactionFailed }) := by decide
/-- R105 line 3, with `ready` cleared. -/
theorem test_register_claim :
    nextPart (exec (.register 2 b0 0x03 5) (standing (tagging sim 5) (.register 2 b0 0x03 5) (.line 3)))
      (fun t => ((t.slot 0).claimed, (t.slot 0).busAddress, (t.slot 0).sampleRef, (t.slot 0).ready)) =
    some (true, 0x2A, 5, false) := by decide
/-- R106: pin 7 is not capable. -/
theorem test_register_pin : nextPart (exec (.register 7 b0 0x03 5) sim) (·.result) =
    some (some { st := .notAnInterruptPin }) := by decide
/-- R110 line 1: detached, and the latched edge discarded. -/
theorem test_unregister :
    nextPart (exec (.unregister 0) live) (fun t => ((t.slot 0).attached, t.isPending 0, (t.slot 0).claimed)) =
      some (false, false, true) := by decide
/-- R111: the flag is answered and stays. -/
theorem test_consumeReady :
    nextPart (exec (.consumeReady 0) (live.setReady 0 true)) (fun t => (t.result, (t.slot 0).ready)) =
      some (some { st := .ok, rbool := some true }, true) := by decide
/-- R112. -/
theorem test_clearReady : nextPart (exec (.clearReady 0) (live.setReady 0 true)) (fun t => (t.slot 0).ready) =
    some false := by decide
/-- R69. -/
theorem test_cmdReserved : refusalOf (exec (.cmdReserved 3) sim) = some .reservedOp := by decide
/-- R147: the latch is cleared and the body stands at READ. -/
theorem test_irqBody_dispatch : nextPart (exec (.irqBody 0) live) (fun t => (t.isPending 0, (t.vec 0).ph)) =
    some (false, .read) := by decide
/-- V1 in the body's DECODE. -/
theorem test_irqBody_decode :
    nextPart (exec (.irqBody 0) (inBody .decode)) (fun t => (t.sample 0).abs) =
      some (some { x := 127, y := 773, z := 18, buttons := 1, touching := true }) := by decide
/-- V29. -/
theorem test_decodeAbs : nextPart (exec (.decodeAbs 0x02 0x55 0x34 0x12 0xA5 0x21) sim) (·.fnResult) =
    some (.abs { x := 1332, y := 2578, z := 33, buttons := 2, touching := true }) := by decide
/-- V25. -/
theorem test_decodeAbs_masks : nextPart (exec (.decodeAbs 0xFF 0xFF 0x00 0x34 0x20 0xFF) sim) (·.fnResult) =
    some (.abs { x := 0, y := 564, z := 63, buttons := 63, touching := false }) := by decide
/-- V32. -/
theorem test_decodeRel : nextPart (exec (.decodeRel 0x07 0x80 0x7F 0xFF) sim) (·.fnResult) =
    some (.rel { buttons := 7, dx := -128, dy := 127, scroll := -1 }) := by decide
/-- V33. -/
theorem test_decodeRel_mask : nextPart (exec (.decodeRel 0xF8 0x01 0xFF 0x80) sim) (·.fnResult) =
    some (.rel { buttons := 0, dx := 1, dy := -1, scroll := -128 }) := by decide
/-- R62. -/
theorem test_rapcmdRead : nextPart (exec (.rapcmdRead b0 0x12) sim) (fun t => ((t.sensor b0).ptr, (t.sensor b0).dir)) =
    some (0x12, .reading) := by decide
/-- R62. -/
theorem test_rapcmdWrite :
    nextPart (exec (.rapcmdWrite b0 0x1D) sim) (fun t => ((t.sensor b0).ptr, (t.sensor b0).dir)) =
      some (0x1D, .writing) := by decide
/-- R30, R68. -/
theorem test_eraCtrlReadInc : nextPart (exec (.eraCtrlReadInc b0) sim) (fun t => (t.sensor b0).pend) = some 0x05 := by
  decide
/-- R30, R68. -/
theorem test_eraCtrlWrite : nextPart (exec (.eraCtrlWrite b0) sim) (fun t => (t.sensor b0).pend) = some 0x02 := by
  decide
/-- R97: the target passes from 0x01FF to 0x0200 (V18), and the value register holds the byte. -/
theorem test_eraCtrlDone :
    nextPart (exec (.eraCtrlDone b0)
      ((sim.setEraByte b0 0x01FF (some 0x22)).setSensor b0 { Sensor.reset with target := 0x01FF, pend := 0x05 }))
      (fun t => ((t.sensor b0).target, t.window b0 0x1B, t.window b0 0x1E)) =
    some (0x0200, some 0x22, some 0x00) := by decide
/-- V12. -/
theorem test_feedDisable : nextPart (exec (.feedDisable b0 0xFF) sim) (·.trace) = some [.write b0 0x04 0xFE] := by
  decide
/-- V13. -/
theorem test_feedEnable : nextPart (exec (.feedEnable b0 0x02) sim) (fun t => (t.trace, (t.sensor b0).feed)) =
    some ([.write b0 0x04 0x03], true) := by decide
/-- V15. -/
theorem test_clearFlags : nextPart (exec (.clearFlags b0) sim) (·.trace) = some [.write b0 0x02 0x00] := by decide
/-- R94: a non-zero byte keeps the poll going. -/
theorem test_eraPoll_busy : nextPart (exec (.eraPoll b0) (start .oracle [giving 0x05])) (fun t => t.fg.ph) =
    some .poll := by decide
/-- V22: the third poll is the last one allowed. -/
theorem test_eraPoll_cap :
    nextPart (exec (.eraPoll b0)
      { start .oracle [giving 0x05] with
        cfg := { environment .oracle with eraPollCap := some 3 }, fg := ⟨some (.eraPoll b0), .poll, 0, [], 2, 0⟩ })
      (·.result) = some (some { st := .unresponsiveDevice }) := by decide

/-! Witnesses: the hypotheses of each obligation, met together. -/

/-- No body runs in a state whose vectors are those of reset. -/
theorem idle_of {s : State} (h : s.vecs = List.replicate 4 Vec.reset) (j : Nat) : (s.vec j).ph = .idle := by
  refine (State.running_none_iff s).1 ?_ j
  rw [State.running, h]; decide

/-- A property of every slot of `live` from that of the slot that is attached. -/
theorem live_slots {P : Nat → Slot → Prop} (h0 : P 0 liveSlot) (h : ∀ i, P i Slot.reset) (i : Nat) : P i (live.slot i) := by
  have hs : ∀ i, live.slot i = if i = 0 then liveSlot else Slot.reset := by
    intro i
    rcases i with _ | _ | _ | _ | i <;> rfl
  rw [hs]
  split
  · rename_i hi; rw [hi]; exact h0
  · exact h i

/-- The latches of `live`. -/
theorem live_pending (i : Nat) (h : live.isPending i = true) : i = 0 := by
  rcases i with _ | _ | _ | _ | i
  · rfl
  all_goals cases h

theorem live_sized : live.Sized := by decide

theorem live_table : live.TableInv := by
  refine ⟨live_sized, live_slots (P := fun _ x => x.attached = true → x.claimed = true) (fun _ => rfl)
    (fun _ h => by cases h), ?_, ?_, ?_, ?_⟩
  · intro _ _ _ _ _ h; cases h.1
  · intro _ _ _ _ h; cases h.1
  · intro _ _ _ _ _ h; cases h.1
  · intro _ h; cases h

theorem live_latches : live.PendingInv := by
  refine ⟨live_sized, fun i hi => ?_⟩
  rw [live_pending i hi]; rfl

theorem live_distinct : live.RegistrationsDistinct := by
  have ha : ∀ i, (live.slot i).attached = true → i = 0 :=
    live_slots (P := fun i x => x.attached = true → i = 0) (fun _ => rfl) (fun _ h => by cases h)
  have hc : ∀ i, (live.slot i).claimed = true → i = 0 :=
    live_slots (P := fun i x => x.claimed = true → i = 0) (fun _ => rfl) (fun _ h => by cases h)
  exact ⟨fun i j hi hj _ => by rw [ha i hi, ha j hj], fun i j hi hj _ => by rw [hc i hi, hc j hj],
    fun _ _ _ _ h => by cases h.1⟩

theorem inBody_vecs {p : VecPhase} (i : Nat) (h : ((inBody p).vec i).ph ≠ .idle) : i = 0 := by
  rcases i with _ | _ | _ | _ | i
  · rfl
  all_goals exact absurd rfl h

theorem inBody_one (p : VecPhase) : (inBody p).OneBody := by
  intro i j hi hj; rw [inBody_vecs i hi, inBody_vecs j hj]

/-- A step of the machine from `live` and from a running body answers a next state. -/
theorem live_steps : (nextPart (step live) (fun t => t.clock)) = some 1 := by decide

theorem inBody_steps : (nextPart (step (inBody .stamp)) (fun t => t.clock)) = some 1 := by decide

theorem of_nextPart {α : Type} {o : Host.Outcome State Fault Refusal} {f : State → α} {a : α}
    (h : nextPart o f = some a) : ∃ t, o = .next t := by
  cases o with
  | next t => exact ⟨t, rfl⟩
  | fault r => cases h
  | refused r => cases h

theorem witness_DecodeEncodeRoundTrip :
    Config.standard.valid = true ∧ (Instr.rapRead b0 0x12 6).wf Config.standard = true ∧
    encode Config.standard (.rapRead b0 0x12 6) = some (.port { op := 0, b := b0, reg := 0x12, count := 6 }) ∧
    (Instr.unregister 3).wf Config.standard = true ∧
    encode Config.standard (.unregister 3) = some (.port { op := 5, slot := 3 }) := by decide

theorem witness_ReservedEncodingsAreRefused :
    8 ≤ (PortFields.mk 8 b0 0 0 0 0 0 0 0 0 0).op.toNat ∧ 8 ≤ (PortFields.mk 15 b0 0 0 0 0 0 0 0 0 0).op.toNat ∧
    sim.cfg.nSlots ≤ 4 ∧ sim.cfg.nSlots = 2 ^ 2 ∧ (0 : BitVec 6).toNat = 0 ∧ 32 < (33 : BitVec 6).toNat ∧
    32 < (0x1F : Reg).toNat + (2 : BitVec 6).toNat := by
  decide

theorem witness_OutOfBoundsReadsAreRefused :
    (0 : BitVec 6).toNat = 0 ∧ sim.cfg.rapMaxCount < (33 : BitVec 6).toNat ∧
    32 < (0x1F : Reg).toNat + (2 : BitVec 6).toNat ∧ 0x10000 < (0xFFFF : EraAddr).toNat + (2 : Byte).toNat ∧
    ({ Config.standard with eraMaxN := 254 } : Config).eraMaxN < (255 : Byte).toNat := by
  decide

theorem witness_CommandByteDecodesByMarker :
    Config.standard.valid = true ∧ (0xBF : Byte) &&& 0xE0 = Config.standard.readMarker ∧
    (0x80 : Byte) &&& 0xE0 = Config.standard.writeMarker ∧
    (0xC0 : Byte) &&& 0xE0 ≠ Config.standard.readMarker ∧ (0xC0 : Byte) &&& 0xE0 ≠ Config.standard.writeMarker := by
  decide

theorem witness_StepRunsTheDecodedInstruction :
    (({ sim with port := some (.port { op := 5, slot := 3 }) } : State).ForegroundNext ∧
      decode sim.cfg (.port { op := 5, slot := 3 }) = .ok (.unregister 3)) ∧
    (standing sim (.unregister 3) (.line 2)).ForegroundNext ∧
    ((inBody .read).moves = [] ∧ (inBody .read).running = some 0) := by decide

/-- `live` with an operation presented on bus `b` and interrupts on. -/
def presenting (b : Binding) (m : Move) : State :=
  { live with port := some (.port { op := 0, b := b, reg := 2, count := 1 }), moves := [m] }

/-- `live` with a platform that puts the dispatch off for at most two steps. -/
def patient : State := { live with answers := [{ okAnswer with choice := 1, delay := 2 }] }

/-- R147: a dispatch put off leaves one step less to wait. -/
theorem patient_waits : nextPart (step patient) (fun t => (t.patience, (t.vec 0).ph)) = some (some 1, .idle) := by decide

/-- R147: with no step left to wait the vector is dispatched. -/
theorem test_patience_ends :
    nextPart (step { patient with patience := some 0 }) (fun t => (t.patience, (t.vec 0).ph)) = some (none, .read) := by
  decide

theorem witness_DispatchBetweenAndInsideFrames :
    (presenting b0 (.dispatch 0)).Sized ∧ (∀ j, ((presenting b0 (.dispatch 0)).vec j).ph = .idle) ∧
    (presenting b0 (.dispatch 0)).isPending 0 = true ∧ (presenting b0 (.dispatch 0)).ie = true ∧
    (presenting b0 (.dispatchInFrame 0)).nextFrame = some b0 ∧
    sameBus b0 ((presenting b0 (.dispatchInFrame 0)).slot 0).binding = true ∧
    (presenting bOther (.dispatchInFrame 0)).nextFrame = some bOther ∧
    sameBus bOther ((presenting bOther (.dispatchInFrame 0)).slot 0).binding = false ∧
    live.Sized ∧ live.moves = [] ∧ live.candidates ≠ [] ∧ (∃ t, step live = .next t) ∧
    patient.Sized ∧ patient.moves = [] ∧ patient.candidates ≠ [] ∧ (∃ t, step patient = .next t) :=
  ⟨by decide, idle_of rfl, by decide, by decide, by decide, by decide, by decide, by decide, by decide, rfl, by decide,
    of_nextPart live_steps, by decide, rfl, by decide, of_nextPart patient_waits⟩

theorem witness_BusDutyPreventsOverlap :
    live.PendingInv ∧ live.BusDutyKept ∧ (live.setIe false).BusDutyKept :=
  ⟨live_latches, Or.inr (fun b i h => by cases h), Or.inl rfl⟩

/-- `sim` with an extended read in progress at its first sensor. -/
def busy : State := sim.setSensor b0 { Sensor.reset with target := 0xFFFF, pend := 0x05 }

theorem witness_RapReadReturnsItsFrame :
    Idle sim (.rapRead b0 0x00 32) ∧ Idle sim (.rapRead b0 0x1F 1) ∧ sim.answer.fail = false ∧
    Idle (start .oracle [giving 1]) (.rapRead b0 0x1F 1) ∧
    deviceModel (start .oracle [giving 1]).cfg b0 = .oracle ∧ (sim.sensor b0).pend = 0 ∧
    (∀ k, k < (1 : BitVec 6).toNat → (0x1F : Reg) + BitVec.ofNat 5 k ≠ sim.cfg.regEraCtrl) ∧
    Idle busy (.rapRead b0 0x1E 1) ∧ (busy.sensor b0).pend ≠ 0 := by decide

theorem witness_ReadBytesAscend :
    Idle (start .plainStorage [okAnswer]) (.rapRead b0 0x00 32) ∧
    (start .plainStorage [okAnswer]).answer.fail = false ∧
    deviceModel (start .plainStorage [okAnswer]).cfg b0 = .plainStorage ∧
    ((start .plainStorage [okAnswer]).setWindow b0 0x1F (some 9)).window b0 (0x00 + BitVec.ofNat 5 31) = some 9 := by
  decide

theorem witness_RapWriteSendsItsByte : Idle sim (.rapWrite b0 0x1F 0xFF) ∧ sim.answer.fail = false := by decide

theorem witness_FailedFrameIsReported :
    Idle (start .refSim [failing]) (.rapRead b0 0x12 6) ∧ Idle (start .refSim [failing]) (.rapWrite b0 0x04 0x03) ∧
    (start .refSim [failing]).answer.fail = true := by decide

theorem witness_PlainStorageRoundTrip :
    Idle (start .plainStorage [okAnswer, okAnswer]) (.rapWrite b0 0x1F 0x5A) ∧
    Idle (start .plainStorage [okAnswer, okAnswer]) (.rapRead b0 0x1F 1) ∧
    deviceModel (start .plainStorage [okAnswer, okAnswer]).cfg b0 = .plainStorage ∧
    (start .plainStorage [okAnswer, okAnswer]).answer.fail = false ∧
    (start .plainStorage [okAnswer, okAnswer]).tick.answer.fail = false := by decide

theorem witness_CommandBytesSelectTheRegister :
    sim.cfg.valid = true ∧ sim.cfg.reaches b0 = true := by decide

theorem witness_ControlCodesStartAnAccess : sim.cfg.valid = true ∧ sim.cfg.reaches bOther = true := by decide

/-- A sensor with an extended read, and one with an extended write, in progress at the top of the ERA space, one with
a third code, and plain storage. -/
theorem witness_CompletedAccessTakesEffect :
    sim.cfg.valid = true ∧ sim.cfg.reaches b0 = true ∧ deviceModel sim.cfg b0 ≠ .plainStorage ∧
    (start .plainStorage []).cfg.valid = true ∧ (start .plainStorage []).cfg.reaches b0 = true ∧
    deviceModel (start .plainStorage []).cfg b0 = .plainStorage ∧
    (0x07 : Byte) ≠ sim.cfg.eraCtrlReadInc ∧ (0x07 : Byte) ≠ sim.cfg.eraCtrlWrite ∧
    ((sim.setSensor b0 { Sensor.reset with target := 0xFFFF, pend := 0x05 }).sensor b0).pend =
      sim.cfg.eraCtrlReadInc ∧
    ((sim.setSensor b0 { Sensor.reset with target := 0xFFFF, pend := 0x02 }).sensor b0).pend =
      sim.cfg.eraCtrlWrite := by decide

theorem witness_PseudoOpsAreTheirExpansions : sim.cfg.valid = true ∧ sim.fg.op = none := by decide

theorem witness_FeedAndFlagFramesTakeEffect :
    live.cfg.valid = true ∧ live.cfg.reaches b0 = true ∧ live.fg.op = none ∧ live.modeConflict b0 0x03 = false ∧
    live.answer.fail = false := by decide

/-- The start of a poll that goes on, and a poll that is the cap's last. -/
theorem witness_EraPollReadsThenTests :
    Idle sim (.eraPoll b0) ∧ StandsAt (standing sim (.eraPoll b0) .poll) (.eraPoll b0) .poll ∧
    (sim.sensor b0).feed = false ∧ sim.answer.fail = false ∧
    ({ environment .refSim with eraPollCap := some 1 } : Config).valid = true := by decide

/-- A poll with no cap, and with a cap that this poll reaches or is one below. -/
theorem witness_BusyPollStaysOrTimesOut :
    (∀ cap ∈ [none, some 1, some 2],
      StandsAt (polling cap) (.eraRead b0 3 0 1) .poll ∧ (polling cap).cfg.eraPollCap = cap ∧
      (polling cap).fg.polls = 0 ∧
      nextPart (exec (.eraRead b0 3 0 1) (polling cap)) (·.trace) = some [.read b0 0x1E 1 [0x05]]) := by decide

theorem witness_EraReadWalksItsPhases :
    (sim.setWindow b0 0x1C (some 0xFF)).window b0 sim.cfg.regEraAddrHi = some ((0xFFFF : EraAddr).extractLsb' 8 8) ∧
    sim.answer.fail = false ∧ (sim.sensor b0).feed = false ∧ Idle sim (.eraRead b0 3 0xFFFF 1) ∧
    StandsAt (standing sim (.eraRead b0 3 0xFFFF 1) .addrHi) (.eraRead b0 3 0xFFFF 1) .addrHi ∧
    StandsAt (standing sim (.eraRead b0 3 0xFFFF 0) .addrLo) (.eraRead b0 3 0xFFFF 0) .addrLo ∧
    StandsAt (standing sim (.eraRead b0 3 0xFFFF 1) .ctrl) (.eraRead b0 3 0xFFFF 1) .ctrl ∧
    StandsAt (standing sim (.eraRead b0 3 0xFFFF 1) .poll) (.eraRead b0 3 0xFFFF 1) .poll ∧
    StandsAt (standing sim (.eraRead b0 3 0xFFFF 1) .value) (.eraRead b0 3 0xFFFF 1) .value ∧
    StandsAt (standing sim (.eraRead b0 3 0xFF01 255) .clear) (.eraRead b0 3 0xFF01 255) .clear := by decide

theorem witness_EraWriteWalksItsPhases :
    (sim.setWindow b0 0x1C (some 0xFF)).window b0 sim.cfg.regEraAddrHi = some ((0xFFFF : EraAddr).extractLsb' 8 8) ∧
    sim.answer.fail = false ∧ (sim.sensor b0).feed = false ∧ Idle sim (.eraWrite b0 3 0xFFFF 1) ∧
    StandsAt (standing sim (.eraWrite b0 3 0xFFFF 1) .valueW) (.eraWrite b0 3 0xFFFF 1) .valueW ∧
    StandsAt (standing sim (.eraWrite b0 3 0xFFFF 1) .addrHi) (.eraWrite b0 3 0xFFFF 1) .addrHi ∧
    StandsAt (standing sim (.eraWrite b0 3 0xFFFF 1) .addrLo) (.eraWrite b0 3 0xFFFF 1) .addrLo ∧
    StandsAt (standing sim (.eraWrite b0 3 0xFFFF 1) .ctrl) (.eraWrite b0 3 0xFFFF 1) .ctrl ∧
    StandsAt (standing sim (.eraWrite b0 3 0xFFFF 1) .poll) (.eraWrite b0 3 0xFFFF 1) .poll ∧
    StandsAt (standing sim (.eraWrite b0 3 0xFFFF 1) .clear) (.eraWrite b0 3 0xFFFF 1) .clear := by decide

theorem witness_EraLeavesTheBlockAlone :
    sim.cfg.valid = true ∧ eraBinding (.eraWrite b0 3 0 1) = some b0 ∧
    ∃ t, exec (.eraWrite b0 3 0 1) (standing sim (.eraWrite b0 3 0 1) .ctrl) = .next t :=
  ⟨by decide, rfl, of_nextPart (f := fun t => t.fg.ph) (a := .poll) (by decide)⟩

theorem witness_FailureStopsAnExtendedAccess :
    MayRun (start .refSim [failing]) (.eraRead b0 3 0 1) ∧ eraBinding (.eraRead b0 3 0 1) = some b0 ∧
    (start .refSim [failing]).answer.fail = true ∧ ∃ t, exec (.eraRead b0 3 0 1) (start .refSim [failing]) = .next t :=
  ⟨by decide, rfl, by decide, of_nextPart (f := fun t => t.fg.ph) (a := .idle) (by decide)⟩

/-- `sim` with the feed of the first sensor on. -/
def fed : State := sim.setSensor b0 { Sensor.reset with feed := true }

theorem witness_EraFrameWithFeedOnFaults :
    (fed.sensor b0).feed = true ∧
    StandsAt (standing fed (.eraRead b0 3 0 1) .addrHi) (.eraRead b0 3 0 1) .addrHi ∧
    StandsAt (standing fed (.eraWrite b0 3 0 1) .clear) (.eraWrite b0 3 0 1) .clear ∧
    Idle fed (.eraPoll b0) ∧ StandsAt (standing fed (.eraPoll b0) .poll) (.eraPoll b0) .poll := by decide

/-- A device that answers 0x05 once, then zero, then the value 0x5A. -/
def answering : State :=
  start .oracle [okAnswer, okAnswer, okAnswer, okAnswer, giving 0x05, giving 0x00, giving 0x5A, okAnswer]

theorem witness_EraReadOfOneByteCompletes :
    Idle answering (.eraRead b0 0x03 0x0187 1) ∧ deviceModel answering.cfg b0 = .oracle ∧
    answering.cfg.eraPollCap = none ∧ NoFailure (6 + 2) answering ∧
    (∀ j, j < 2 → ∃ c, (answering.answers[3 + 1 + j]?).map (·.bytes) = some [c] ∧ (c = 0 ↔ j + 1 = 2)) ∧
    (answering.answers[4 + 2]?).map (·.bytes) = some [0x5A] := by
  refine ⟨by decide, by decide, by decide, by decide, ?_, by decide⟩
  intro j hj
  match j, hj with
  | 0, _ => exact ⟨0x05, by decide, by decide⟩
  | 1, _ => exact ⟨0x00, by decide, by decide⟩

theorem witness_SimulatedEraRoundTrip :
    Idle sim (.eraWrite b0 0x03 0x0187 0x5A) ∧ Idle sim (.eraRead b0 0x03 0x0187 1) ∧
    deviceModel sim.cfg b0 = .refSim ∧ sim.cfg.eraPollCap = none ∧ NoFailure 16 sim := by decide

/-- `i` in progress while another agent turns the feed on (R93). -/
def reenabled (i : Instr) (p : Phase) : State := { standing sim i p with moves := [.otherFeed b0 1] }

/-- R93: the access meets its fault at the next frame. -/
theorem test_otherFeed :
    nextPart (step (reenabled (.eraRead b0 3 0 1) .ctrl)) (fun t => ((t.sensor b0).feed, faultOf (step t))) =
      some (true, some .eraWhileFeedOn) := by decide

theorem witness_StepKeepsFeedOff :
    (standing sim (.eraRead b0 3 0 1) .ctrl).FeedOffInv ∧
    (∃ t, step (standing sim (.eraRead b0 3 0 1) .ctrl) = .next t) ∧
    (∀ b v, (standing sim (.eraRead b0 3 0 1) .ctrl).moves.head? ≠ some (.otherFeed b v)) ∧
    (∀ p ∈ [Phase.addrHi, .addrLo, .ctrl, .poll, .value, .clear],
      (reenabled (.eraRead b0 3 0 1) p).running = none ∧ (reenabled (.eraRead b0 3 0 1) p).candidates = [] ∧
      (reenabled (.eraRead b0 3 0 1) p).modeConflict b0 1 = false ∧
      StandsAt (reenabled (.eraRead b0 3 0 1) p) (.eraRead b0 3 0 1) p) ∧
    (∀ p ∈ [Phase.valueW, .addrHi, .addrLo, .ctrl, .poll, .clear],
      StandsAt (reenabled (.eraWrite b0 3 0 1) p) (.eraWrite b0 3 0 1) p) ∧
    (1 : Byte) &&& sim.cfg.feed1EnMask ≠ 0 := by
  refine ⟨⟨by decide, ?_, ?_⟩, of_nextPart (f := fun t => t.fg.ph) (a := .poll) (by decide), ?_, ?_, ?_, ?_⟩
  · intro b h
    cases h
  · intro i b hi hb _ _
    cases hi
    cases hb
    decide
  · intro b v h
    cases h
  · decide
  · decide
  · decide

/-- The standard environment with every slot claimed. -/
def full : State := { sim with slots := List.replicate 4 { Slot.reset with claimed := true } }

theorem witness_TableErrorsChangeNothing :
    Idle sim (.register 7 b0 3 5) ∧ irqCapable sim.cfg 7 = false ∧
    StandsAt (standing full (.register 2 b0 3 5) (.line 2)) (.register 2 b0 3 5) (.line 2) ∧
    Idle full (.register 2 b0 3 5) ∧ irqCapable full.cfg 2 = true ∧
    ∀ x ∈ full.slots, x.claimed = true := by decide

theorem witness_RegisterClaimsTheLeastFreeSlot :
    StandsAt (standing live (.register 3 b1 3 5) (.line 2)) (.register 3 b1 3 5) (.line 2) ∧
    1 < live.slots.length ∧ (live.slot 1).claimed = false ∧ (∀ k, k < 1 → (live.slot k).claimed = true) ∧
    StandsAt (standing (tagging live 5) (.register 3 b1 3 5) (.line 3)) (.register 3 b1 3 5) (.line 3) ∧
    (∀ x ∈ (tagging live 5).slots, x.attached = true → x.pin ≠ 3) ∧
    (∀ x ∈ (tagging live 5).slots, x.claimed = true → x.sampleRef ≠ 5) ∧
    ((tagging live 5).sample 5).tagged = true ∧ feedMode live.cfg 3 = ((tagging live 5).sample 5).mode ∧
    (tagging live 5).modeConflict b1 3 = false ∧ (tagging live 5).window b1 live.cfg.regFeed1 = none ∧
    StandsAt (standing (configured 2) (.register 3 b1 3 5) (.line 3)) (.register 3 b1 3 5) (.line 3) ∧
    (configured 2).window b1 live.cfg.regFeed1 = some 2 ∧ feedOffByte live.cfg 2 = feedOffByte live.cfg 3 := by
  decide

theorem witness_RegisterAttachesThenFeeds :
    StandsAt (standing live (.register 3 b1 3 5) (.line 4)) (.register 3 b1 3 5) (.line 4) ∧
    (standing live (.register 3 b1 3 5) (.line 4)).fg.slot < live.slots.length ∧ live.answer.fail = false ∧
    StandsAt (standing live (.register 3 b1 3 5) (.line 5)) (.register 3 b1 3 5) (.line 5) ∧
    StandsAt (standing live (.register 3 b1 3 5) (.line 6)) (.register 3 b1 3 5) (.line 6) ∧
    StandsAt (standing live (.register 3 b1 3 5) (.line 7)) (.register 3 b1 3 5) (.line 7) ∧
    StandsAt (standing live (.register 3 b1 3 5) (.line 8)) (.register 3 b1 3 5) (.line 8) := by decide

theorem witness_RegisterFailureKeepsTheClaim :
    StandsAt (standing (start .refSim [failing]) (.register 3 b1 3 5) (.line 5)) (.register 3 b1 3 5) (.line 5) ∧
    StandsAt (standing (start .refSim [failing]) (.register 3 b1 3 5) (.line 7)) (.register 3 b1 3 5) (.line 7) ∧
    (start .refSim [failing]).answer.fail = true := by decide

theorem witness_DuplicateRegistrationIsRefused :
    StandsAt (standing live (.register 2 b1 3 5) (.line 3)) (.register 2 b1 3 5) (.line 3) ∧
    (∃ x ∈ live.slots, x.attached = true ∧ x.pin = 2) ∧
    StandsAt (standing live (.register 3 b1 3 0) (.line 3)) (.register 3 b1 3 0) (.line 3) ∧
    (∀ x ∈ live.slots, x.attached = true → x.pin ≠ 3) ∧ (∃ x ∈ live.slots, x.claimed = true ∧ x.sampleRef = 0) ∧
    StandsAt (standing live (.register 3 b1 3 5) (.line 3)) (.register 3 b1 3 5) (.line 3) ∧
    (∀ x ∈ live.slots, x.claimed = true → x.sampleRef ≠ 5) ∧ (live.sample 5).tagged = false ∧
    StandsAt (standing (tagging live 5) (.register 3 b1 1 5) (.line 3)) (.register 3 b1 1 5) (.line 3) ∧
    ((tagging live 5).sample 5).tagged = true ∧ feedMode live.cfg 1 ≠ ((tagging live 5).sample 5).mode ∧
    (tagging live 5).modeConflict b0 1 = true ∧
    StandsAt (standing (configured 1) (.register 3 b1 3 5) (.line 3)) (.register 3 b1 3 5) (.line 3) ∧
    feedMode (configured 1).cfg 3 = ((configured 1).sample 5).mode ∧ (configured 1).modeConflict b1 3 = false ∧
    (configured 1).window b1 live.cfg.regFeed1 = some 1 ∧ feedOffByte live.cfg 1 ≠ feedOffByte live.cfg 3 := by
  decide

/-- R163, R178: a tag not written, and a tag that is not the feed byte's data mode. -/
theorem test_register_duties :
    refusalOf (exec (.register 3 b1 3 5) (standing live (.register 3 b1 3 5) (.line 3))) = some .tagNotWritten ∧
    refusalOf (exec (.register 3 b1 1 5) (standing (tagging live 5) (.register 3 b1 1 5) (.line 3))) =
      some .dataModeConflict := by decide

/-- R163 (2), (4): the sensor was configured with 0x01, the feed byte is 0x03; with 0x02 only the enable differs. -/
theorem test_register_feed_byte :
    refusalOf (exec (.register 3 b1 3 5) (standing (configured 1) (.register 3 b1 3 5) (.line 3))) =
      some .feedByteMismatch ∧
    nextPart (exec (.register 3 b1 3 5) (standing (configured 2) (.register 3 b1 3 5) (.line 3))) (·.fg.ph) =
      some (.line 4) := by decide

theorem witness_RegisterCompletes :
    Idle (tagging live 5) (.register 3 b1 0x03 5) ∧ irqCapable (tagging live 5).cfg 3 = true ∧
    1 < (tagging live 5).slots.length ∧ ((tagging live 5).slot 1).claimed = false ∧
    (∀ k, k < 1 → ((tagging live 5).slot k).claimed = true) ∧
    (∀ x ∈ (tagging live 5).slots, x.attached = true → x.pin ≠ 3) ∧
    (∀ x ∈ (tagging live 5).slots, x.claimed = true → x.sampleRef ≠ 5) ∧
    ((tagging live 5).sample 5).tagged = true ∧
    feedMode (tagging live 5).cfg 0x03 = ((tagging live 5).sample 5).mode ∧
    (tagging live 5).modeConflict b1 0x03 = false ∧ (tagging live 5).window b1 live.cfg.regFeed1 = none ∧
    Idle (configured 2) (.register 3 b1 0x03 5) ∧ (configured 2).window b1 live.cfg.regFeed1 = some 2 ∧
    feedOffByte live.cfg 2 = feedOffByte live.cfg 3 ∧ NoFailure 8 (tagging live 5) := by decide

theorem witness_UnregisterReleases :
    Idle live (.unregister 0) ∧ live.Sized ∧ ((live.slot 0).attached = false → live.isPending 0 = false) ∧
    Idle live (.unregister 3) ∧ ((live.slot 3).attached = false → live.isPending 3 = false) := by decide

theorem witness_DetachIsEffective :
    Idle live (.unregister 0) ∧ live.Sized ∧ live.RegistrationsDistinct ∧ (live.slot 0).attached = true ∧
    ∃ t, execRun (.unregister 0) 3 live = some t := by
  refine ⟨by decide, by decide, live_distinct, by decide, ?_⟩
  have h : (execRun (.unregister 0) 3 live).isSome = true := by decide
  exact Option.isSome_iff_exists.mp h

theorem witness_ConsumeReadyReadsTheFlag :
    Idle live (.consumeReady 0) ∧ (live.slot 0).claimed = true ∧ Idle live (.consumeReady 3) ∧
    (live.slot 3).claimed = false := by decide

theorem witness_ClearReadyClearsTheFlag : Idle live (.clearReady 0) ∧ Idle live (.clearReady 3) ∧ live.Sized := by decide

theorem witness_ReadyUntilCleared :
    Idle (inBody .setReady) (.consumeReady 0) ∧ (inBody .setReady).Sized ∧ ((inBody .setReady).slot 0).claimed = true ∧
    ((inBody .setReady).vec 0).ph = .setReady := by decide

theorem witness_DispatchEntersTheBody :
    live.Sized ∧ 0 < live.cfg.nSlots ∧ live.isPending 0 = true ∧ live.ie = true ∧ ∀ j, (live.vec j).ph = .idle :=
  ⟨by decide, by decide, by decide, by decide, idle_of rfl⟩

theorem witness_BodyRunsItsFiveSteps :
    (inBody .read).Sized ∧ 0 < (inBody .read).cfg.nSlots ∧ ((inBody .read).vec 0).ph = .read ∧
    ((inBody .stamp).vec 0).ph = .stamp ∧ ((inBody .clear).vec 0).ph = .clear ∧
    ((inBody .decode).vec 0).ph = .decode ∧ ((inBody .setReady).vec 0).ph = .setReady ∧
    (inBody .read).answer.fail = false ∧ (inBody .clear).answer.fail = false := by decide

theorem witness_BodyFailureSetsTheLatch :
    ({ inBody .read with answers := [failing] } : State).Sized ∧
    (({ inBody .read with answers := [failing] } : State).vec 0).ph = .read ∧
    (({ inBody .clear with answers := [failing] } : State).vec 0).ph = .clear ∧
    ({ inBody .read with answers := [failing] } : State).answer.fail = true := by decide

theorem witness_BodyTouchesOnlyItsSlot :
    (inBody .clear).Sized ∧ ((inBody .clear).vec 0).ph ≠ .idle ∧ ∃ t, exec (.irqBody 0) (inBody .clear) = .next t :=
  ⟨by decide, by decide, execIrqBody_runs (by decide) (by decide)⟩

theorem witness_BodyCompletes :
    (inBody .read).Sized ∧ 0 < (inBody .read).cfg.nSlots ∧ ((inBody .read).vec 0).ph = .read ∧
    NoFailure 5 (inBody .read) := by decide

theorem witness_EdgeSetsTheLatch : live.Sized ∧ (live.slot 0).attached = true ∧ (live.slot 0).pin = 2 := by decide

theorem witness_OnlyAFeedingSensorInterrupts :
    sim.cfg.valid = true ∧ (sim.sensor b0).feed = false ∧ (fed.sensor b0).feed = true ∧ (fed.sensor b0).line = false ∧
    deviceModel fed.cfg b0 ≠ .plainStorage ∧ deviceModel (start .plainStorage []).cfg b0 = .plainStorage ∧
    wiredPin fed.cfg b0 = some 2 ∧ deviceModel fed.cfg b0 = .refSim ∧ fed.window b0 fed.cfg.regStatus = none ∧
    (fed.setWindow b0 0x02 (some 8)).window b0 fed.cfg.regStatus = some 8 ∧
    ((fed.setSensor b0 { Sensor.reset with feed := true, line := true }).sensor b0).line = true := by decide

/-- R28, R31: the packet and the data-ready flag beside a command-complete flag; R88: plain storage stays. -/
theorem test_sample :
    ((fed.setWindow b0 0x02 (some 8)).deviceSample b0 [1, 2]).window b0 0x02 = some 0x0C ∧
    (fed.deviceSample b0 [1, 2]).window b0 0x13 = some 2 ∧
    (((start .plainStorage []).setSensor b0 { Sensor.reset with feed := true }).deviceSample b0 [1]).mem = [] := by
  decide

/-- `live` with a complete sample in storage 0 and slot 0 ready. -/
def sampled : State :=
  (live.setReady 0 true).setSample 0 { Sample.reset with abs := some { x := 1, y := 2, z := 3, buttons := 0, touching := true } }

/-- `live` with a complete relative sample in storage 0 and slot 0 ready. -/
def sampledRelative : State :=
  (live.setReady 0 true).setSample 0 { Sample.reset with
    mode := .relative, rel := some { buttons := 1, dx := -128, dy := 127, scroll := -1 } }

/-- `sampled` after CONSUME_READY was true and the slot was released. -/
def released : State :=
  { sampled.setSample 0 { sampled.sample 0 with covered := true } with slots := List.replicate 4 Slot.reset }

theorem witness_CoveredReadsSeeTheSample :
    (∀ f ∈ [SampleField.mode, .timestamp, .absX, .absY, .absZ, .absButtons, .absTouching],
      (fieldMode f = none ∨ fieldMode f = some (sampled.sample 0).mode) ∧ (fieldValue (sampled.sample 0) f).isSome) ∧
    (∀ f ∈ [SampleField.mode, .timestamp, .relButtons, .relDx, .relDy, .relScroll],
      (fieldMode f = none ∨ fieldMode f = some (sampledRelative.sample 0).mode) ∧
      (fieldValue (sampledRelative.sample 0) f).isSome) ∧
    Idle sampled (.consumeReady 0) ∧ (sampled.slot 0).claimed = true ∧ (sampled.slot 0).ready = true ∧
    (sampled.slot 0).sampleRef = 0 ∧ Idle sampledRelative (.consumeReady 0) ∧
    fieldMode .relDx = some .relative ∧ (sampled.sample 0).mode ≠ .relative ∧ (released.sample 0).covered = true ∧
    (released.sample 0).mode = .absolute ∧ fieldValue (released.sample 0) .absX = some 1 ∧
    (nextPart (released.writeMode 0 .absolute) (·.clock)).isSome ∧
    (nextPart (released.writeMode 0 .relative) (·.clock)).isSome := by decide

/-- R55 (2): the read after CONSUME_READY gives the stored delta, and the tag reads 1 for RELATIVE. -/
theorem test_covered_read :
    nextPart (exec (.consumeReady 0) sampledRelative) (fun t =>
      (nextPart (t.load 0 .relDx) (·.loaded), nextPart (t.load 0 .mode) (·.loaded), faultOf (t.load 0 .absX))) =
    some (some [-128], some [1], some .unselectedMember) := by decide

/-- R55 (2), R25: the same tag written again leaves the sample readable; another tag leaves the timestamp, and takes the
member away. -/
theorem test_retag :
    nextPart (released.writeMode 0 .absolute) (fun t => nextPart (t.load 0 .absX) (·.loaded)) = some (some [1]) ∧
    nextPart (released.writeMode 0 .relative) (fun t => (nextPart (t.load 0 .timestamp) (·.loaded),
      faultOf (t.load 0 .absX), (t.sample 0).abs)) = some (some [0], some .unselectedMember, none) := by decide

theorem witness_TagAndModeAreFixed :
    (∃ x ∈ live.slots, x.attached = true ∧ x.sampleRef = 0) ∧ (∀ x ∈ live.slots, x.attached = true → x.sampleRef ≠ 5) ∧
    live.cfg.valid = true ∧ live.cfg.reaches b0 = true ∧ live.fg.op = none ∧
    (∃ x ∈ live.slots, x.attached = true ∧ x.rapRead = b0.tp ∧ x.busAddress = b0.busAddress ∧
      ((1 : Byte) &&& live.cfg.feed1AbsMask ≠ 0 ↔ (live.sample x.sampleRef).mode = .relative)) ∧
    live.modeConflict b0 1 = true ∧ (Instr.eraRead b0 1 0xFFFF 1).wf live.cfg = true ∧
    (∃ x ∈ live.slots, x.claimed = true) := by
  decide

/-- R173, R178: a relative feed byte under an absolute attached slot, and the slot's storage taken away. -/
theorem test_duties :
    refusalOf (exec (.feedEnable b0 1) live) = some .dataModeConflict ∧
    refusalOf (live.discard (.storage 0)) = some .resourceInUse ∧
    nextPart (live.discard (.storage 5)) (fun t => (t.sample 5).tagged) = some false := by decide

/-- R156, R179: a sample still to come bars no end; an operation to come does. -/
theorem test_run_ended :
    { sim with moves := [.sample b0 [1]] }.RunEnded ∧
    ¬ { sim with moves := [.present (.port { op := 7, slot := 0 })] }.RunEnded := by decide

theorem witness_StepKeepsTheTable :
    (∃ t, step live = .next t) ∧ live.TableInv ∧ live.PendingInv ∧ live.OneTransport :=
  ⟨of_nextPart live_steps, live_table, live_latches, live_slots (P := fun _ x => x.rapRead = x.rapWrite) rfl (fun _ => rfl)⟩

theorem witness_ClaimsStayUntilReleased :
    live.TableInv ∧ (∃ t, step live = .next t) ∧ live.moves.head? ≠ some .powerCycle ∧ (live.slot 0).claimed = true ∧
    ((live.setReady 0 true).slot 0).ready = true ∧ (live.setReady 0 true).nextInstr ≠ some (.clearReady 0) ∧
    (inBody .setReady).running = some 0 ∧ ((inBody .setReady).slot 0).ready = false ∧
    nextPart (step (inBody .setReady)) (fun t => (t.slot 0).ready) = some true ∧
    nextPart (step (inBody .read)) (fun t => decide ((t.slot 0).raw = liveSlot.raw)) = some false ∧
    nextPart (step (standing (tagging sim 5) (.register 2 b0 3 5) (.line 3))) (fun t => (t.slot 0).claimed) = some true :=
  ⟨live_table, of_nextPart live_steps, by decide, by decide, by decide, by decide, by decide, by decide, by decide,
    by decide, by decide⟩

theorem witness_StepKeepsOneBody : (inBody .stamp).OneBody ∧ ∃ t, step (inBody .stamp) = .next t :=
  ⟨inBody_one _, of_nextPart inBody_steps⟩

theorem witness_ForegroundWaitsForTheBody :
    (inBody .stamp).OneBody ∧ (inBody .stamp).running = some 0 ∧ (inBody .stamp).moves.head? ≠ some .powerCycle ∧
    ∃ t, step (inBody .stamp) = .next t :=
  ⟨inBody_one _, by decide, by decide, of_nextPart inBody_steps⟩

theorem witness_StepKeepsBodyBinding :
    (inBody .stamp).BodyBindingInv ∧ (∃ t, step (inBody .stamp) = .next t) ∧ (inBody .stamp).OneMember := by
  refine ⟨fun i hi => ?_, of_nextPart inBody_steps, fun _ => ⟨fun _ => rfl, fun _ => rfl⟩⟩
  rw [inBody_vecs i hi]; decide

theorem witness_StepKeepsRegistrationsDistinct : live.RegistrationsDistinct ∧ ∃ t, step live = .next t :=
  ⟨live_distinct, of_nextPart live_steps⟩

theorem witness_StepKeepsCanonicalForm : sampled.CanonicalForm ∧ ∃ t, step sampled = .next t :=
  ⟨by refine ⟨?_, ?_, ?_⟩ <;> decide, of_nextPart (f := fun t => t.clock) (a := 1) (by decide)⟩

theorem witness_StepKeepsSequencer :
    (standing sim (.eraRead b0 3 0 1) .ctrl).SequencerInv ∧ ∃ t, step (standing sim (.eraRead b0 3 0 1) .ctrl) = .next t :=
  ⟨Iff.intro (fun h => by cases h) (fun h => by cases h), of_nextPart (f := fun t => t.fg.ph) (a := .poll) (by decide)⟩

theorem witness_ParametersAndFaultsStay :
    (∃ t, step live = .next t) ∧ live.moves.head? ≠ some .powerCycle ∧
    ((({ live with vecs := live.vecs.set 0 { Vec.reset with fault := true } } : State).vec 0).fault = true) :=
  ⟨of_nextPart live_steps, by decide, by decide⟩

end Sys2Proof.Tests
end

section
/-! PROOFS. Who takes the step when no move is written out (O5), and what no step changes: the parameters, and
every fault latch but for a power cycle (O60). -/

namespace Sys2Proof.Machine

/-! The agent in turn (R149, R156). -/

/-- With no move written out and nothing to dispatch, the step is that of the agent in turn. -/
theorem step_eq_agentStep {s : State} (hm : s.moves = []) (hc : s.candidates = []) :
    step s = tickOutcome (agentStep s) := by
  simp [step, turn, hm, freeStep, hc]

theorem agentStep_of_running {s : State} {k : Nat} (h : s.running = some k) : agentStep s = exec (.irqBody k) s := by
  simp [agentStep, h]

theorem agentStep_of_not_running {s : State} (h : s.running = none) : agentStep s = foregroundStep s := by
  simp [agentStep, h]

theorem foregroundStep_of_op {s : State} {i : Instr} (h : s.fg.op = some i) : foregroundStep s = exec i s := by
  simp [foregroundStep, h]

theorem foregroundStep_of_port {s : State} {w : Fetch} {i : Instr} (hn : s.fg.op = none) (hp : s.port = some w)
    (hd : decode s.cfg w = .ok i) : foregroundStep s = exec i s.takePort := by
  simp [foregroundStep, hn, hp, hd]

theorem step_of_foregroundNext {s : State} (h : s.ForegroundNext) : step s = tickOutcome (foregroundStep s) := by
  obtain ⟨hm, hr, hc⟩ := h
  rw [step_eq_agentStep hm hc, agentStep_of_not_running hr]

/-- A running body needs no premise about dispatch: while it runs there is no candidate (R149). -/
theorem step_of_running {s : State} {k : Nat} (hm : s.moves = []) (hr : s.running = some k) :
    step s = tickOutcome (exec (.irqBody k) s) := by
  rw [step_eq_agentStep hm (State.candidates_running (by simp [hr])), agentStep_of_running hr]

/-- Settles O5, by which agent is in turn. -/
theorem stepRunsTheDecodedInstruction : Obligations.StepRunsTheDecodedInstruction := by
  unfold Obligations.StepRunsTheDecodedInstruction
  refine ⟨fun s w i hf hn hp hd => ?_, fun s i hf hi => ?_, fun s k hm hr => step_of_running hm hr⟩
  · rw [step_of_foregroundNext hf, foregroundStep_of_port hn hp hd]
  · rw [step_of_foregroundNext hf, foregroundStep_of_op hi]

/-! Parameters and fault latches (R5, R36). -/

/-- `t` has the parameters of `s` and every fault latch that is set in `s`. -/
def State.CfgAndFaultsStay (s t : State) : Prop :=
  t.cfg = s.cfg ∧ ∀ i, (s.vec i).fault = true → (t.vec i).fault = true

theorem State.cfgAndFaultsStay_of_vecs {s t : State} (hc : t.cfg = s.cfg) (hv : t.vecs = s.vecs) :
    s.CfgAndFaultsStay t :=
  ⟨hc, fun i h => by simpa [State.vec, hv] using h⟩

theorem exec_cfg {i : Instr} {s t : State} (h : exec i s = .next t) : t.cfg = s.cfg :=
  congrArg Prod.fst (exec_outside h)

theorem exec_foreground_vecs {i : Instr} {s t : State} (h : exec i s = .next t) (hi : ∀ k, i ≠ .irqBody k) :
    t.vecs = s.vecs :=
  congrArg Prod.fst (exec_apart apart_vecs h hi)

theorem execIrqBody_fault_stays {i j : Nat} {s t : State} (h : exec (.irqBody i) s = .next t)
    (hf : (s.vec j).fault = true) : (t.vec j).fault = true := by
  obtain ⟨x, hx, hxf⟩ := execIrqBody_vecs h
  have ht : t.vec j = (s.setVec i x).vec j := by simp [State.vec, hx]
  rw [ht, State.vec_setVec]
  split
  · rename_i hj
    obtain ⟨rfl, -⟩ := hj
    cases hv : x.fault with
    | true => rfl
    | false => simp [hxf hv] at hf
  · exact hf

/-- A body writes its own vector and clears no latch; the foreground's instructions write no vector. -/
theorem exec_cfgAndFaultsStay {i : Instr} {s t : State} (h : exec i s = .next t) : s.CfgAndFaultsStay t := by
  by_cases hi : ∃ k, i = .irqBody k
  · obtain ⟨k, rfl⟩ := hi
    exact ⟨exec_cfg h, fun _ => execIrqBody_fault_stays h⟩
  · exact State.cfgAndFaultsStay_of_vecs (exec_cfg h) (exec_foreground_vecs h fun k e => hi ⟨k, e⟩)

theorem Ran.cfgAndFaultsStay {s t : State} (h : Ran s t) : s.CfgAndFaultsStay t := by
  cases h with
  | body _ h => exact exec_cfgAndFaultsStay h
  | goesOn _ _ h => exact exec_cfgAndFaultsStay h
  | starts _ _ _ _ h => exact exec_cfgAndFaultsStay (s := s.takePort) h
  | waits => exact State.cfgAndFaultsStay_of_vecs rfl rfl

/-- No move of the outside world touches a parameter, and only a power cycle touches the vectors. -/
theorem Happened.cfg_vecs {s t : State} {m : Move} (h : Happened s m t) :
    t.cfg = s.cfg ∧ (m ≠ .powerCycle → t.vecs = s.vecs) := by
  cases h with
  | present w | setIE v | await | dispatch i | dispatchInFrame i | pulse p => exact ⟨rfl, fun _ => rfl⟩
  | writeMode r md _ h => rw [(State.writeMode_next h).2]; exact ⟨rfl, fun _ => rfl⟩
  | load r f _ h => rw [State.load_next h]; exact ⟨rfl, fun _ => rfl⟩
  | discard x _ h =>
    obtain ⟨-, rfl | ⟨r, -, rfl⟩⟩ := State.discard_next h
    · exact ⟨rfl, fun _ => rfl⟩
    · exact ⟨rfl, fun _ => rfl⟩
  | otherFeed b v h => rw [(State.otherFeed_next h).2]; exact ⟨by simp, fun _ => by simp⟩
  | sample b bytes =>
    exact ⟨State.deviceSample_keeps (·.cfg) (by simp) (by simp) (by simp) s b bytes,
      fun _ => State.deviceSample_keeps (·.vecs) (by simp) (by simp) (by simp) s b bytes⟩
  | powerCycle => exact ⟨rfl, fun h => absurd rfl h⟩

/-- Settles O60, by everything a step can do: an agent's turn keeps both, and so does a move but for a power cycle. -/
theorem parametersAndFaultsStay : Obligations.ParametersAndFaultsStay := by
  unfold Obligations.ParametersAndFaultsStay
  intro s t h
  obtain ⟨u, rfl, ⟨ms, q, hr⟩ | ⟨m, ms, hm, -, hh⟩⟩ := step_cases h
  · obtain ⟨hc, hf⟩ := hr.cfgAndFaultsStay
    exact ⟨hc, fun _ => hf⟩
  · obtain ⟨hc, hv⟩ := hh.cfg_vecs
    refine ⟨hc, fun hp => ?_⟩
    have hne : m ≠ .powerCycle := by simpa [hm] using hp
    exact (State.cfgAndFaultsStay_of_vecs hc (hv hne)).2

end Sys2Proof.Machine
end

section
/-! PROOFS. What a property must stand for an instruction to keep it, said once for all instructions: the frames, the
returns and the record updates they are made of. The steps of REGISTER and UNREGISTER are listed one by one (R105,
R110). For a property of the block alone, what it must stand for a step of the machine to keep it. -/

namespace Sys2Proof.Machine

/-- `P` stays through a frame, through a return, and when operation `i` goes on in a phase that is not IDLE. -/
structure Kept (i : Instr) (P : State → Prop) : Prop where
  memWrite : ∀ s b reg v, P s → P (State.memWrite s b reg v).2
  memRead : ∀ s b reg n, P s → P (State.memRead s b reg n).2
  goes : ∀ s x p, p ≠ .idle → P s → P ((State.setFg s x).goto i p)
  setIdle : ∀ s, P s → P (State.setFg s Fg.idle)
  ret : ∀ s r, P s → P (State.ret s r)

namespace Kept

variable {i : Instr} {P : State → Prop} {s : State}

theorem goto (K : Kept i P) {p : Phase} (hp : p ≠ .idle) (h : P s) : P (s.goto i p) := K.goes s s.fg p hp h

theorem writeThen (K : Kept i P) {b : Binding} {reg : Reg} {v : Byte} {k : State → State}
    (hk : ∀ t, P t → P (k t)) (h : P s) : P (s.writeThen b reg v k) := by
  have hm := K.memWrite s b reg v h
  simp only [State.writeThen, State.raiseError]
  split
  · exact hk _ hm
  · exact K.ret _ _ hm

theorem readThen (K : Kept i P) {b : Binding} {reg : Reg} {n : Nat} {k : List Byte → State → State}
    (hk : ∀ bytes t, P t → P (k bytes t)) (h : P s) : P (s.readThen b reg n k) := by
  have hm := K.memRead s b reg n h
  simp only [State.readThen, State.raiseError]
  split
  · exact hk _ _ hm
  · exact K.ret _ _ hm

theorem pollThen (K : Kept i P) {b : Binding} {k : State → State} (hk : ∀ t, P t → P (k t)) (h : P s) :
    P (s.pollThen i b k) := by
  refine K.readThen (fun bytes t ht => ?_) h
  split
  · exact hk t ht
  · split
    · exact K.ret t _ ht
    · exact K.goes t _ _ (by decide) ht

theorem eraNextByte (K : Kept i P) {n : Nat} (h : P s) : P (s.eraNextByte i n) := by
  unfold State.eraNextByte
  split
  · exact K.goes s _ _ (by decide) h
  · exact K.ret s _ h

theorem eraStart (K : Kept i P) {b : Binding} {feed1 : Byte} {p : Phase} (hp : p ≠ .idle) (h : P s) :
    P (s.eraStart i b feed1 p) :=
  K.writeThen (fun t ht => K.goes t _ _ hp ht) h

theorem eraControl (K : Kept i P) {b : Binding} {code : Byte} (h : P s) : P (s.eraControl i b code) :=
  K.writeThen (fun t ht => K.goes t _ _ (by decide) ht) h

/-- ERA_READ is made of frames, returns and phases. -/
theorem eraReadPhase {b : Binding} {feed1 : Byte} {addr : EraAddr} {n : Byte} {t : State} {p : Phase}
    (K : Kept (.eraRead b feed1 addr n) P) (h : eraReadPhase b feed1 addr n s p = .next t) (hs : P s) : P t := by
  cases p with
  | idle | feedOff => injection h with h; subst h; exact K.eraStart (by decide) hs
  | valueW | line k => cases h
  | addrHi => rw [(State.eraGuard_next h).2]; exact K.writeThen (fun u hu => K.goto (by decide) hu) hs
  | addrLo =>
    rw [(State.eraGuard_next h).2]
    refine K.writeThen (fun u hu => ?_) hs
    split
    · exact K.ret u _ hu
    · exact K.goto (by decide) hu
  | ctrl => rw [(State.eraGuard_next h).2]; exact K.eraControl hs
  | poll => rw [(State.eraGuard_next h).2]; exact K.pollThen (fun u hu => K.goto (by decide) hu) hs
  | value => rw [(State.eraGuard_next h).2]; exact K.readThen (fun _ u hu => K.goes u _ _ (by decide) hu) hs
  | clear => rw [(State.eraGuard_next h).2]; exact K.writeThen (fun u hu => K.eraNextByte hu) hs

/-- So is ERA_WRITE. -/
theorem eraWritePhase {b : Binding} {feed1 : Byte} {addr : EraAddr} {data : Byte} {t : State} {p : Phase}
    (K : Kept (.eraWrite b feed1 addr data) P) (h : eraWritePhase b feed1 addr data s p = .next t) (hs : P s) :
    P t := by
  cases p with
  | idle | feedOff => injection h with h; subst h; exact K.eraStart (by decide) hs
  | value | line k => cases h
  | valueW | addrHi | addrLo =>
    rw [(State.eraGuard_next h).2]; exact K.writeThen (fun u hu => K.goto (by decide) hu) hs
  | ctrl => rw [(State.eraGuard_next h).2]; exact K.eraControl hs
  | poll => rw [(State.eraGuard_next h).2]; exact K.pollThen (fun u hu => K.goto (by decide) hu) hs
  | clear => rw [(State.eraGuard_next h).2]; exact K.writeThen (fun u hu => K.ret u _ hu) hs

end Kept

/-- `P` stays through everything a foreground instruction other than REGISTER and UNREGISTER does. -/
structure KeptOffTable (i : Instr) (P : State → Prop) : Prop extends Kept i P where
  setReady : ∀ s k v, P s → P (State.setReady s k v)
  cover : ∀ s r, P s → P (State.setSample s r { s.sample r with covered := true })
  setFn : ∀ s x, P s → P { s with fnResult := x }
  sensorCommand : ∀ s b cmd, P s → P (State.sensorCommand s b cmd)
  deviceStore : ∀ s b r v, P s → P (State.deviceStore s b r v)
  completeAccess : ∀ s b, P s → P (State.completeAccess s b)
  setWindow : ∀ s b r v, P s → P (State.setWindow s b r v)

/-- REGISTER and UNREGISTER: the instructions that write `claimed` and `attached` (R13, R17). -/
def changesTable : Instr → Bool
  | .register _ _ _ _ => true
  | .unregister _ => true
  | _ => false

/-- A foreground instruction that does not change the table keeps what all its parts keep. -/
theorem exec_kept {i : Instr} {P : State → Prop} (K : KeptOffTable i P) {s t : State} (h : exec i s = .next t)
    (hb : ∀ k, i ≠ .irqBody k) (ht : changesTable i = false) (hs : P s) : P t := by
  cases i with
  | register pin b feed1 r | unregister k => cases ht
  | irqBody k => exact absurd rfl (hb k)
  | cmdReserved low => cases h
  | rapRead b reg count =>
    obtain ⟨-, p, -, -, h⟩ := State.accept_next h
    injection h with h; subst h
    exact K.readThen (fun _ u hu => K.ret u _ hu) hs
  | rapWrite b reg v =>
    obtain ⟨-, p, -, -, h⟩ := State.accept_next h
    injection h with h; subst h
    exact K.writeThen (fun u hu => K.ret u _ hu) hs
  | feedDisable b feed1 | feedEnable b feed1 | clearFlags b =>
    obtain ⟨-, p, -, -, h⟩ := State.accept_next h
    injection h with h; subst h
    exact K.writeThen (fun u hu => K.ret u _ hu) hs
  | eraRead b feed1 addr n =>
    obtain ⟨-, p, -, -, h⟩ := State.accept_next h
    exact K.toKept.eraReadPhase h hs
  | eraWrite b feed1 addr v =>
    obtain ⟨-, p, -, -, h⟩ := State.accept_next h
    exact K.toKept.eraWritePhase h hs
  | eraPoll b =>
    obtain ⟨-, p, -, -, h⟩ := State.accept_next h
    cases p with
    | idle => rw [(State.eraGuard_next h).2]; exact K.pollThen (fun u hu => K.ret u _ hu) (K.setIdle s hs)
    | poll => rw [(State.eraGuard_next h).2]; exact K.pollThen (fun u hu => K.ret u _ hu) hs
    | feedOff | valueW | addrHi | addrLo | ctrl | value | clear | line k => cases h
  | consumeReady k =>
    obtain ⟨-, p, -, -, h⟩ := State.accept_next h
    injection h with h; subst h
    refine K.ret _ _ ?_
    unfold State.coverSample
    split
    · exact K.cover s _ hs
    · exact hs
  | clearReady k =>
    obtain ⟨-, p, -, -, h⟩ := State.accept_next h
    injection h with h; subst h
    exact K.ret _ _ (K.setReady s _ _ hs)
  | decodeAbs b0 b1 b2 b3 b4 b5 | decodeRel b0 b1 b2 b3 => injection h with h; subst h; exact K.setFn s _ hs
  | rapcmdRead b a | rapcmdWrite b a => rw [(State.onBus_next h).2]; exact K.sensorCommand s _ _ hs
  | eraCtrlReadInc b | eraCtrlWrite b => rw [(State.onBus_next h).2]; exact K.deviceStore s _ _ _ hs
  | eraCtrlDone b =>
    rw [(State.onBus_next h).2]
    split
    · exact hs
    · split
      · exact K.setWindow s _ _ _ hs
      · exact K.completeAccess s b hs

/-- An operation in a phase that is not IDLE is the one in progress, and stands in that phase. -/
theorem State.phaseOf_progress {s : State} {i : Instr} {p : Phase} (h : s.phaseOf i = some p) (hp : p ≠ .idle) :
    s.fg.op = some i ∧ s.fg.ph = p := by
  unfold State.phaseOf at h
  split at h
  · exact absurd (Option.some.inj h).symm hp
  · rename_i j hj
    split at h
    · rename_i e; subst e; exact ⟨hj, Option.some.inj h⟩
    · cases h

/-- What a step of REGISTER is (R105 to R109): a table error, one of the lines 1 to 4, one of the three frames, the
return. -/
inductive RegisterStep (pin : Pin) (b : Binding) (feed1 : Byte) (r : StorageRef) (s : State) : State → Prop where
  | error (st : Status) : RegisterStep pin b feed1 r s (s.raiseError st)
  | checksPin : RegisterStep pin b feed1 r s ((s.setFg Fg.idle).goto (.register pin b feed1 r) (.line 2))
  | choosesSlot {j : Nat} : s.freeSlot = some j →
      RegisterStep pin b feed1 r s ((s.setFg { s.fg with slot := j }).goto (.register pin b feed1 r) (.line 3))
  | claims : s.AtRegister pin b feed1 r 3 →
      RegisterStep pin b feed1 r s ((s.claim s.fg.slot b r).goto (.register pin b feed1 r) (.line 4))
  | attaches : s.AtRegister pin b feed1 r 4 →
      RegisterStep pin b feed1 r s ((s.attach s.fg.slot pin).goto (.register pin b feed1 r) (.line 5))
  | frame {k : Nat} {reg : Reg} {v : Byte} : s.AtRegister pin b feed1 r k → 5 ≤ k →
      RegisterStep pin b feed1 r s (s.writeThen b reg v fun t => t.goto (.register pin b feed1 r) (.line (k + 1)))
  | returns (x : Result) : RegisterStep pin b feed1 r s (s.ret x)

theorem registerLine_step {pin : Pin} {b : Binding} {feed1 : Byte} {r : StorageRef} {s t : State} {k : Nat}
    (hk : k ≠ 1 → s.AtRegister pin b feed1 r k) (h : registerLine pin b feed1 r s k = .next t) :
    RegisterStep pin b feed1 r s t := by
  unfold registerLine at h
  split at h
  · split at h <;> injection h with h <;> subst h
    · exact .checksPin
    · exact .error _
  · split at h <;> injection h with h <;> subst h
    · rename_i j hj; exact .choosesSlot hj
    · exact .error _
  · split at h
    · cases h
    · injection h with h; subst h; exact .claims (hk (by decide))
  · injection h with h; subst h; exact .attaches (hk (by decide))
  · injection h with h; subst h; exact .frame (hk (by decide)) (by decide)
  · injection h with h; subst h; exact .frame (hk (by decide)) (by decide)
  · injection h with h; subst h; exact .frame (hk (by decide)) (by decide)
  · injection h with h; subst h; exact .returns _
  · cases h

theorem execRegister_step {pin : Pin} {b : Binding} {feed1 : Byte} {r : StorageRef} {s t : State}
    (h : exec (.register pin b feed1 r) s = .next t) : RegisterStep pin b feed1 r s t := by
  obtain ⟨-, p, hp, -, h⟩ := State.accept_next h
  cases p with
  | idle => exact registerLine_step (fun hk => absurd rfl hk) h
  | line k => exact registerLine_step (fun _ => State.phaseOf_progress hp (by simp)) h
  | feedOff | valueW | addrHi | addrLo | ctrl | poll | value | clear => cases h

/-- What a step of UNREGISTER is (R110): the detach, the release, the return. -/
inductive UnregisterStep (k : Nat) (s : State) : State → Prop where
  | detaches : UnregisterStep k s (((s.detach k).setFg Fg.idle).goto (.unregister k) (.line 2))
  | releases : s.fg.op = some (.unregister k) → s.fg.ph = .line 2 →
      UnregisterStep k s ((s.release k).goto (.unregister k) (.line 3))
  | returns (x : Result) : UnregisterStep k s (s.ret x)

theorem unregisterLine_step {k n : Nat} {s t : State}
    (hn : n ≠ 1 → s.fg.op = some (.unregister k) ∧ s.fg.ph = .line n) (h : unregisterLine k s n = .next t) :
    UnregisterStep k s t := by
  unfold unregisterLine at h
  split at h
  · injection h with h; subst h; exact .detaches
  · injection h with h; subst h
    obtain ⟨ho, hp⟩ := hn (by decide)
    exact .releases ho hp
  · injection h with h; subst h; exact .returns _
  · cases h

theorem execUnregister_step {k : Nat} {s t : State} (h : exec (.unregister k) s = .next t) : UnregisterStep k s t := by
  obtain ⟨-, p, hp, -, h⟩ := State.accept_next h
  cases p with
  | idle => exact unregisterLine_step (fun hn => absurd rfl hn) h
  | line n => exact unregisterLine_step (fun _ => State.phaseOf_progress hp (by simp)) h
  | feedOff | valueW | addrHi | addrLo | ctrl | poll | value | clear => cases h

/-- `P` stays through everything a foreground instruction does. -/
structure KeptOnTable (i : Instr) (P : State → Prop) : Prop extends KeptOffTable i P where
  setSlot : ∀ s k x, P s → P (State.setSlot s k x)
  setPending : ∀ s k v, P s → P (State.setPending s k v)
  setIe : ∀ s v, P s → P (State.setIe s v)

namespace KeptOnTable

variable {P : State → Prop} {s t : State}

theorem registerStep {pin : Pin} {b : Binding} {feed1 : Byte} {r : StorageRef}
    (K : KeptOnTable (.register pin b feed1 r) P) (h : RegisterStep pin b feed1 r s t) (hs : P s) : P t := by
  cases h with
  | error st => exact K.ret s _ hs
  | checksPin => exact K.goes s _ _ (by decide) hs
  | choosesSlot _ => exact K.goes s _ _ (by decide) hs
  | claims _ => exact K.goto (by decide) (K.setIe _ _ (K.setSlot _ _ _ (K.setIe s _ hs)))
  | attaches _ => exact K.goto (by decide) (K.setSlot s _ _ hs)
  | frame _ _ => exact K.writeThen (fun u hu => K.goto (by simp) hu) hs
  | returns x => exact K.ret s x hs

theorem unregisterStep {k : Nat} (K : KeptOnTable (.unregister k) P) (h : UnregisterStep k s t) (hs : P s) : P t := by
  cases h with
  | detaches =>
    refine K.goes _ _ _ (by decide) ?_
    unfold State.detach
    split
    · exact K.setPending _ _ _ (K.setSlot s _ _ hs)
    · exact hs
  | releases _ _ => exact K.goto (by decide) (K.setIe _ _ (K.setSlot _ _ _ (K.setIe s _ hs)))
  | returns x => exact K.ret s x hs

/-- Every foreground instruction keeps what all its parts keep. -/
theorem exec {i : Instr} (K : KeptOnTable i P) (h : exec i s = .next t) (hb : ∀ k, i ≠ .irqBody k) (hs : P s) :
    P t := by
  cases ht : changesTable i with
  | false => exact exec_kept K.toKeptOffTable h hb ht hs
  | true =>
    cases i with
    | register pin b feed1 r => exact K.registerStep (execRegister_step h) hs
    | unregister k => exact K.unregisterStep (execUnregister_step h) hs
    | _ => cases ht

end KeptOnTable

/-- A sensor's new sample keeps what writes of window registers and of sensors and edges keep (R31, R34, R141). -/
theorem State.deviceSample_kept {P : State → Prop} (hw : ∀ s b r v, P s → P (State.setWindow s b r v))
    (hs : ∀ s b x, P s → P (State.setSensor s b x)) (he : ∀ s p, P s → P (State.edge s p)) {s : State} (h : P s)
    (b : Binding) (bytes : List Byte) : P (s.deviceSample b bytes) := by
  have hPacket : ∀ (vs : List Byte) (k : Nat) (u : State), P u → P (storePacket b k vs u) := by
    intro vs
    induction vs with
    | nil => exact fun _ _ hu => hu
    | cons v vs ih => exact fun k u hu => ih (k + 1) _ (hw u b _ _ hu)
  have hLine : ∀ u : State, P u → P (u.raiseLine b) := by
    intro u hu
    unfold State.raiseLine
    split
    · exact hu
    · dsimp only
      split
      · exact he _ _ (hs u b _ hu)
      · exact hs u b _ hu
  unfold State.deviceSample
  split
  · exact hLine _ (hw _ b _ _ (hPacket _ 0 s h))
  · exact h

/-- The part of the state that the block itself holds: parameters, slots, vectors, latches, foreground sequencer. -/
def State.BlockSame (s t : State) : Prop :=
  t.cfg = s.cfg ∧ t.slots = s.slots ∧ t.vecs = s.vecs ∧ t.pending = s.pending ∧ t.fg = s.fg

/-- What speaks of the block alone is kept by a step if the instructions, an edge and a power cycle keep it: the other
moves of the outside world leave the block alone (R72, R93, R141, R178). -/
theorem step_keeps_block {P : State → Prop} (hRest : ∀ s t, State.BlockSame s t → P s → P t)
    (hExec : ∀ i s t, P s → exec i s = .next t → P t) (hEdge : ∀ s p, P s → P (State.edge s p))
    (hPower : ∀ s, P s → P (State.powerCycled s)) {s t : State} (hs : P s) (h : step s = .next t) : P t := by
  refine step_keeps P (hs := hs) (h := h)
    (hTick := fun s => hRest s s.tick ⟨rfl, rfl, rfl, rfl, rfl⟩)
    (hMoves := fun s ms => hRest s { s with moves := ms } ⟨rfl, rfl, rfl, rfl, rfl⟩)
    (hPatience := fun s q => hRest s { s with patience := q } ⟨rfl, rfl, rfl, rfl, rfl⟩)
    (hTake := fun s _ => hRest s s.takePort ⟨rfl, rfl, rfl, rfl, rfl⟩)
    (hBody := fun _ _ _ _ h he => hExec _ _ _ h he)
    (hGoOn := fun _ _ _ _ _ h he => hExec _ _ _ h he)
    (hStart := fun _ _ _ _ _ _ _ h he => hExec _ _ _ h he)
    (hPresent := fun s w => hRest s { s with port := some w } ⟨rfl, rfl, rfl, rfl, rfl⟩)
    (hIe := fun s v => hRest s (s.setIe v) ⟨rfl, rfl, rfl, rfl, rfl⟩)
    (hMode := ?_) (hLoad := ?_) (hDiscard := ?_) (hPulse := hEdge) (hOther := ?_)
    (hSample := fun _ b bytes h => State.deviceSample_kept
      (fun s b r v => hRest s (s.setWindow b r v) ⟨rfl, rfl, rfl, rfl, rfl⟩)
      (fun s b x => hRest s (s.setSensor b x) ⟨rfl, rfl, rfl, rfl, rfl⟩) hEdge h b bytes)
    (hPower := hPower)
  · intro s u r m _ h hm
    rw [(State.writeMode_next hm).2]
    exact hRest s _ ⟨rfl, rfl, rfl, rfl, rfl⟩ h
  · intro s u r f h hl
    rw [State.load_next hl]
    exact hRest s _ ⟨rfl, rfl, rfl, rfl, rfl⟩ h
  · intro s u x _ h hd
    obtain ⟨-, rfl | ⟨r, -, rfl⟩⟩ := State.discard_next hd
    · exact h
    · exact hRest s _ ⟨rfl, rfl, rfl, rfl, rfl⟩ h
  · intro s u b v h ho
    rw [(State.otherFeed_next ho).2]
    exact hRest s _ ⟨rfl, rfl, rfl, rfl, rfl⟩ h

end Sys2Proof.Machine
end

section
/-! PROOFS. What every step keeps whatever else the state holds: the canonical form of the storages (O58), and the
sequencer IDLE exactly between operations (O59). -/

namespace Sys2Proof.Machine

/-! The canonical form (log 8). -/

namespace State.CanonicalForm

variable {s t : State}

theorem setByte (h : s.CanonicalForm) (a : Nat) (v : Option Byte) : (s.setByte a v).CanonicalForm := by
  obtain ⟨hm, hs, hp⟩ := h
  exact ⟨Memory.wf_set s.mem a v hm, hs, hp⟩

theorem setSensor (h : s.CanonicalForm) (b : Binding) (x : Sensor) : (s.setSensor b x).CanonicalForm := by
  obtain ⟨hm, hs, hp⟩ := h
  exact ⟨hm, Sparse.wfD_putD s.sensors _ _ x hs, hp⟩

theorem setSample (h : s.CanonicalForm) (r : StorageRef) (x : Sample) : (s.setSample r x).CanonicalForm := by
  obtain ⟨hm, hs, hp⟩ := h
  exact ⟨hm, hs, Sparse.wfD_putD s.samples _ _ x hp⟩

theorem sensorCommand (h : s.CanonicalForm) (b : Binding) (cmd : Byte) : (s.sensorCommand b cmd).CanonicalForm := by
  unfold State.sensorCommand
  split
  · exact h.setSensor b _
  · split
    · exact h.setSensor b _
    · exact h

theorem deviceStore (h : s.CanonicalForm) (b : Binding) (r : Reg) (v : Byte) : (s.deviceStore b r v).CanonicalForm :=
  (h.setByte _ _).setSensor b _

theorem completeAccess (h : s.CanonicalForm) (b : Binding) : (s.completeAccess b).CanonicalForm := by
  unfold State.completeAccess
  refine ((setByte ?_ _ _).setByte _ _).setSensor b _
  split
  · exact h.setByte _ _
  · split
    · exact (h.setByte _ _).setByte _ _
    · exact h

theorem afterByte (h : s.CanonicalForm) (b : Binding) (drawn : Byte) : (s.afterByte b drawn).CanonicalForm := by
  unfold State.afterByte
  refine setSensor ?_ b _
  split
  · exact h.completeAccess b
  · exact h

theorem deviceSupply (h : s.CanonicalForm) (b : Binding) (n k : Nat) : (deviceSupply b n k s).2.CanonicalForm := by
  induction n generalizing k s with
  | zero => exact h
  | succ n ih => exact ih (h.afterByte b _) _

theorem memRead (h : s.CanonicalForm) (b : Binding) (reg : Reg) (n : Nat) : (s.memRead b reg n).2.CanonicalForm := by
  have hc := h.sensorCommand b (readCommand s.cfg reg)
  simp only [State.memRead]
  split
  · split
    · exact hc.setSensor b _
    · exact h
  · exact (hc.deviceSupply b n 0).setSensor b _

theorem sensorWrite (h : s.CanonicalForm) (b : Binding) (reg : Reg) (v : Byte) : (s.sensorWrite b reg v).CanonicalForm :=
  ((h.sensorCommand b _).deviceStore b _ v).setSensor b _

theorem memWrite (h : s.CanonicalForm) (b : Binding) (reg : Reg) (v : Byte) : (s.memWrite b reg v).2.CanonicalForm := by
  have hw := h.sensorWrite b reg v
  simp only [State.memWrite]
  split
  · split
    · exact hw
    · exact h
  · exact hw

theorem irqBody (h : s.CanonicalForm) {i : Nat} (he : exec (.irqBody i) s = .next t) : t.CanonicalForm := by
  obtain ⟨-, ⟨-, -, rfl⟩ | ⟨-, rfl⟩ | ⟨-, rfl⟩ | ⟨-, rfl⟩ | ⟨-, rfl⟩ | ⟨-, rfl⟩⟩ := execIrqBody_next he
  · exact setSample (s := (s.setPending i false).setVec i _) h _ _
  · have hr := h.memRead (s.vec i).rbind s.cfg.regPktBase (packetLen (s.vec i).mode)
    unfold State.bodyRead
    dsimp only
    split
    · exact hr
    · exact hr
  · exact h.setSample _ _
  · have hw := h.memWrite (s.vec i).wbind s.cfg.regStatus s.cfg.statusClear
    unfold State.bodyClear
    dsimp only
    split
    · exact hw
    · exact hw
  · exact h.setSample _ _
  · exact h

theorem deviceSample (h : s.CanonicalForm) (b : Binding) (bytes : List Byte) : (s.deviceSample b bytes).CanonicalForm :=
  State.deviceSample_kept (fun _ _ _ v h => h.setByte _ v) (fun _ b x h => h.setSensor b x) (fun _ _ h => h) h b bytes

theorem discard (h : s.CanonicalForm) {x : Resource} (hd : s.discard x = .next t) : t.CanonicalForm := by
  obtain ⟨-, rfl | ⟨r, -, rfl⟩⟩ := State.discard_next hd
  · exact h
  · exact h.setSample r _

/-- After a power cycle nothing is listed. -/
theorem powerCycled (s : State) : s.powerCycled.CanonicalForm := ⟨rfl, rfl, rfl⟩

end State.CanonicalForm

theorem keptOnTable_canonicalForm (i : Instr) : KeptOnTable i State.CanonicalForm where
  memWrite _ b reg v h := h.memWrite b reg v
  memRead _ b reg n h := h.memRead b reg n
  goes _ _ _ _ h := h
  setIdle _ h := h
  ret _ _ h := h
  setReady _ _ _ h := h
  cover _ r h := h.setSample r _
  setFn _ _ h := h
  sensorCommand _ b cmd h := h.sensorCommand b cmd
  deviceStore _ b r v h := h.deviceStore b r v
  completeAccess _ b h := h.completeAccess b
  setWindow _ _ _ v h := h.setByte _ v
  setSlot _ _ _ h := h
  setPending _ _ _ h := h
  setIe _ _ h := h

theorem exec_canonicalForm {i : Instr} {s t : State} (hs : s.CanonicalForm) (h : exec i s = .next t) :
    t.CanonicalForm := by
  by_cases hi : ∃ k, i = .irqBody k
  · obtain ⟨k, rfl⟩ := hi
    exact hs.irqBody h
  · exact (keptOnTable_canonicalForm i).exec h (fun k e => hi ⟨k, e⟩) hs

/-- Settles O58: every write of a byte, a sensor or a storage goes by a sparse write, which keeps the form. -/
theorem stepKeepsCanonicalForm : Obligations.StepKeepsCanonicalForm := by
  unfold Obligations.StepKeepsCanonicalForm
  intro s t hs h
  refine step_keeps State.CanonicalForm (hs := hs) (h := h)
    (hTick := fun _ h => h) (hMoves := fun _ _ h => h) (hPatience := fun _ _ h => h) (hTake := fun _ _ h => h)
    (hBody := fun _ _ _ _ h he => exec_canonicalForm h he)
    (hGoOn := fun _ _ _ _ _ h he => exec_canonicalForm h he)
    (hStart := fun _ _ _ _ _ _ _ h he => exec_canonicalForm h he)
    (hPresent := fun _ _ h => h) (hIe := fun _ _ h => h)
    (hMode := ?_) (hLoad := ?_) (hDiscard := fun _ _ _ _ h hd => h.discard hd)
    (hPulse := fun _ _ h => h) (hOther := ?_)
    (hSample := fun _ b bytes h => h.deviceSample b bytes) (hPower := fun s _ => .powerCycled s)
  · intro s u r m _ h hm
    rw [(State.writeMode_next hm).2]
    exact h.setSample r _
  · intro s u r f h hl
    rw [State.load_next hl]
    exact h
  · intro s u b v h ho
    rw [(State.otherFeed_next ho).2]
    exact h.deviceStore b _ v

/-! The sequencer (R19, R21). -/

theorem State.SequencerInv.of_fg {s t : State} (h : s.SequencerInv) (e : t.fg = s.fg) : t.SequencerInv := by
  unfold State.SequencerInv
  rw [e]
  exact h

/-- An operation goes on in a phase that is not IDLE, and returns to IDLE. -/
theorem keptOnTable_sequencerInv (i : Instr) : KeptOnTable i State.SequencerInv where
  memWrite _ _ _ _ h := h.of_fg (by simp)
  memRead _ _ _ _ h := h.of_fg (by simp)
  goes _ _ _ hp _ := ⟨nofun, fun h => absurd h hp⟩
  setIdle _ _ := ⟨fun _ => rfl, fun _ => rfl⟩
  ret _ _ _ := ⟨fun _ => rfl, fun _ => rfl⟩
  setReady _ _ _ h := h
  cover _ _ h := h
  setFn _ _ h := h
  sensorCommand _ _ _ h := h.of_fg (by simp)
  deviceStore _ _ _ _ h := h
  completeAccess _ _ h := h.of_fg (by simp)
  setWindow _ _ _ _ h := h
  setSlot _ _ _ h := h
  setPending _ _ _ h := h
  setIe _ _ h := h

theorem execIrqBody_fg {i : Nat} {s t : State} (h : exec (.irqBody i) s = .next t) : t.fg = s.fg :=
  congrArg (fun x => x.2.2.1) (execIrqBody_outside h)

theorem exec_sequencerInv {i : Instr} {s t : State} (hs : s.SequencerInv) (h : exec i s = .next t) :
    t.SequencerInv := by
  by_cases hi : ∃ k, i = .irqBody k
  · obtain ⟨k, rfl⟩ := hi
    exact hs.of_fg (execIrqBody_fg h)
  · exact (keptOnTable_sequencerInv i).exec h (fun k e => hi ⟨k, e⟩) hs

/-- Settles O59: an instruction goes on in a phase that is not IDLE or returns to IDLE, and nothing else but a power
cycle moves the sequencer. -/
theorem stepKeepsSequencer : Obligations.StepKeepsSequencer := by
  unfold Obligations.StepKeepsSequencer
  intro s t hs h
  exact step_keeps_block (P := State.SequencerInv) (fun _ _ ⟨_, _, _, _, e⟩ h => h.of_fg e)
    (fun _ _ _ h he => exec_sequencerInv h he) (fun _ _ h => h) (fun _ _ => ⟨fun _ => rfl, fun _ => rfl⟩) hs h

end Sys2Proof.Machine
end

section
/-! PROOFS. The slot table (O52): which instructions write `claimed`, `attached` and the latches, and that every step
keeps the table's invariants. The reset state (O8, O9) is a table of slots of reset. -/

namespace Sys2Proof.Machine

/-! What the table's invariants read. -/

/-- `t` has the parameters of `s`, as many slots, vectors and latches, and in each slot the same `claimed` and
`attached`. -/
def State.SameFlags (s t : State) : Prop :=
  t.cfg = s.cfg ∧ t.slots.length = s.slots.length ∧ t.vecs.length = s.vecs.length ∧
    t.pending.length = s.pending.length ∧
    ∀ i, (t.slot i).claimed = (s.slot i).claimed ∧ (t.slot i).attached = (s.slot i).attached

theorem State.sameFlags_of_fields {s t : State} (hc : t.cfg = s.cfg) (hs : t.slots = s.slots) (hv : t.vecs = s.vecs)
    (hp : t.pending = s.pending) : s.SameFlags t :=
  ⟨hc, by rw [hs], by rw [hv], by rw [hp], fun i => by simp [State.slot, hs]⟩

theorem State.sameFlags_memWrite (s : State) (b : Binding) (reg : Reg) (v : Byte) :
    s.SameFlags (s.memWrite b reg v).2 := State.sameFlags_of_fields (by simp) (by simp) (by simp) (by simp)

theorem State.sameFlags_memRead (s : State) (b : Binding) (reg : Reg) (n : Nat) : s.SameFlags (s.memRead b reg n).2 :=
  State.sameFlags_of_fields (by simp) (by simp) (by simp) (by simp)

theorem State.sameFlags_sensorCommand (s : State) (b : Binding) (cmd : Byte) : s.SameFlags (s.sensorCommand b cmd) :=
  State.sameFlags_of_fields (by simp) (by simp) (by simp) (by simp)

theorem State.sameFlags_completeAccess (s : State) (b : Binding) : s.SameFlags (s.completeAccess b) :=
  State.sameFlags_of_fields (by simp) (by simp) (by simp) (by simp)

theorem State.sameFlags_setReady (s : State) (k : Nat) (v : Bool) : s.SameFlags (s.setReady k v) := by
  refine ⟨rfl, by simp, rfl, rfl, fun i => ?_⟩
  unfold State.setReady
  rw [State.slot_setSlot]
  split
  · rename_i h; rw [h.1]; exact ⟨rfl, rfl⟩
  · exact ⟨rfl, rfl⟩

theorem latchEdge_length (p : Pin) (xs : List Slot) (qs : List Bool) : (latchEdge p xs qs).length = qs.length := by
  induction xs generalizing qs with
  | nil => rfl
  | cons x xs ih =>
    cases qs with
    | nil => rfl
    | cons q qs => simp [latchEdge, ih]

theorem State.sameFlags_edge (s : State) (p : Pin) : s.SameFlags (s.edge p) :=
  ⟨rfl, rfl, rfl, latchEdge_length p _ _, fun _ => ⟨rfl, rfl⟩⟩

/-- A body writes of the latches its own only, at its dispatch, and clears it (R121, R147). -/
theorem execIrqBody_pending {i : Nat} {s t : State} (h : exec (.irqBody i) s = .next t) :
    t.pending = s.pending ∨ t.pending = (s.setPending i false).pending := by
  obtain ⟨-, ⟨-, -, rfl⟩ | ⟨-, rfl⟩ | ⟨-, rfl⟩ | ⟨-, rfl⟩ | ⟨-, rfl⟩ | ⟨-, rfl⟩⟩ := execIrqBody_next h
  · exact .inr rfl
  · left
    unfold State.bodyRead
    dsimp only
    split <;> simp [State.vecGoto, State.vecFail, State.returnVector, State.latchFault]
  · exact .inl rfl
  · left
    unfold State.bodyClear
    dsimp only
    split <;> simp [State.vecGoto, State.vecFail, State.returnVector, State.latchFault]
  · exact .inl rfl
  · exact .inl rfl

/-- A body claims, releases, attaches and detaches nothing (R117 (3), R121). -/
theorem execIrqBody_sameFlags {i : Nat} {s t : State} (h : exec (.irqBody i) s = .next t) : s.SameFlags t := by
  obtain ⟨x, hv, -⟩ := execIrqBody_vecs h
  obtain ⟨hl, hi, ho⟩ := execIrqBody_slotWrite h
  refine ⟨exec_cfg h, hl, by rw [hv, List.length_set], ?_, fun j => ?_⟩
  · obtain e | e := execIrqBody_pending h
    · rw [e]
    · simp [e]
  · by_cases hj : j = i
    · subst hj
      generalize t.slot j = y at hi
      cases hi with
      | same | read _ _ | ready _ => exact ⟨rfl, rfl⟩
    · rw [ho j hj]
      exact ⟨rfl, rfl⟩

theorem State.SameFlags.sized {s t : State} (h : s.SameFlags t) (hs : s.Sized) : t.Sized := by
  obtain ⟨hc, hl, hv, hp, -⟩ := h
  unfold State.Sized
  rw [hc, hl, hv, hp]
  exact hs

/-! The slots of reset. -/

@[simp] theorem State.resetWith_slot (c : Config) (i : Nat) : (State.resetWith c).slot i = Slot.reset := by
  simp [State.slot, State.resetWith]

@[simp] theorem State.resetWith_vec (c : Config) (i : Nat) : (State.resetWith c).vec i = Vec.reset := by
  simp [State.vec, State.resetWith]

@[simp] theorem State.resetWith_isPending (c : Config) (i : Nat) : (State.resetWith c).isPending i = false := by
  simp [State.isPending, State.resetWith]

/-! `TableInv` (R17, R117 (1)). -/

/-- What `TableInv` says of the slots alone. -/
def State.ClaimedInv (s : State) : Prop :=
  s.Sized ∧ ∀ i, (s.slot i).attached = true → (s.slot i).claimed = true

theorem State.TableInv.claimedInv {s : State} (h : s.TableInv) : s.ClaimedInv := by
  obtain ⟨hz, ha, -⟩ := h
  exact ⟨hz, ha⟩

theorem State.SameFlags.claimedInv {s t : State} (h : s.SameFlags t) (hs : s.ClaimedInv) : t.ClaimedInv := by
  obtain ⟨hz, ha⟩ := hs
  refine ⟨h.sized hz, fun i => ?_⟩
  obtain ⟨-, -, -, -, hf⟩ := h
  rw [(hf i).1, (hf i).2]
  exact ha i

/-- A write of a slot that leaves it claimed if it is attached. -/
theorem State.ClaimedInv.setSlot {s : State} (h : s.ClaimedInv) (k : Nat) {x : Slot}
    (hx : x.attached = true → x.claimed = true) : (s.setSlot k x).ClaimedInv := by
  obtain ⟨hz, ha⟩ := h
  refine ⟨by simpa [State.Sized] using hz, fun i => ?_⟩
  rw [State.slot_setSlot]
  split
  · exact hx
  · exact ha i

/-- Without REGISTER and UNREGISTER in progress `TableInv` speaks of the slots alone. -/
theorem State.ClaimedInv.tableInv {s : State} (h : s.ClaimedInv) (hf : ∀ i, s.fg.op = some i → changesTable i = false) :
    s.TableInv := by
  obtain ⟨hz, ha⟩ := h
  refine ⟨hz, ha, ?_, ?_, ?_, ?_⟩
  · intro _ _ _ _ _ ⟨ho, _⟩; cases hf _ ho
  · intro _ _ _ _ ⟨ho, _⟩; cases hf _ ho
  · intro _ _ _ _ _ ⟨ho, _⟩; cases hf _ ho
  · intro _ ho; cases hf _ ho

/-- With REGISTER at line `k` it speaks of the chosen slot too. -/
theorem State.ClaimedInv.tableInv_register {s : State} {pin : Pin} {b : Binding} {f : Byte} {r : StorageRef} {k : Nat}
    (h : s.ClaimedInv) (hr : s.AtRegister pin b f r k) (hl : 3 ≤ k → s.fg.slot < s.cfg.nSlots)
    (h3 : k = 3 → (s.slot s.fg.slot).claimed = false) (h4 : 4 ≤ k → (s.slot s.fg.slot).claimed = true) :
    s.TableInv := by
  obtain ⟨hz, ha⟩ := h
  obtain ⟨ho, hp⟩ := hr
  have hk : ∀ {n}, s.fg.ph = .line n → n = k := fun e => Phase.line.inj (e.symm.trans hp)
  refine ⟨hz, ha, ?_, ?_, ?_, ?_⟩
  · intro _ _ _ _ n ⟨_, e⟩ hn; exact hl (hk e ▸ hn)
  · intro _ _ _ _ ⟨_, e⟩; exact h3 (hk e).symm
  · intro _ _ _ _ n ⟨_, e⟩ hn; exact h4 (hk e ▸ hn)
  · intro _ e; rw [ho] at e; cases e

/-- With UNREGISTER of slot `k` in progress it says that the slot to be released is detached. -/
theorem State.ClaimedInv.tableInv_unregister {s : State} {k : Nat} (h : s.ClaimedInv)
    (ho : s.fg.op = some (.unregister k)) (hd : s.fg.ph = .line 2 → (s.slot k).attached = false) : s.TableInv := by
  obtain ⟨hz, ha⟩ := h
  refine ⟨hz, ha, ?_, ?_, ?_, ?_⟩
  · intro _ _ _ _ _ ⟨e, _⟩; rw [ho] at e; cases e
  · intro _ _ _ _ ⟨e, _⟩; rw [ho] at e; cases e
  · intro _ _ _ _ _ ⟨e, _⟩; rw [ho] at e; cases e
  · intro i e hp
    rw [ho] at e
    cases e
    exact hd hp

theorem State.TableInv.of_sameFlags {s t : State} (h : s.TableInv) (hf : s.SameFlags t) (e : t.fg = s.fg) :
    t.TableInv := by
  obtain ⟨hz, ha⟩ := hf.claimedInv h.claimedInv
  obtain ⟨-, -, hl, h3, h4, hd⟩ := h
  obtain ⟨hc, -, -, -, hf⟩ := hf
  refine ⟨hz, ha, ?_, ?_, ?_, ?_⟩
  · simp only [State.AtRegister, e, hc]; exact hl
  · simp only [State.AtRegister, e, (hf _).1]; exact h3
  · simp only [State.AtRegister, e, (hf _).1]; exact h4
  · intro i; simp only [e, (hf _).2]; exact hd i

/-- An instruction that does not change the table keeps `TableInv`: it writes neither flag. -/
theorem keptOffTable_tableInv {i : Instr} (hi : changesTable i = false) : KeptOffTable i State.TableInv where
  memWrite s b reg v h := h.of_sameFlags (s.sameFlags_memWrite b reg v) (by simp)
  memRead s b reg n h := h.of_sameFlags (s.sameFlags_memRead b reg n) (by simp)
  goes _ _ _ _ h := State.ClaimedInv.tableInv (h.claimedInv) fun _ e => Option.some.inj e ▸ hi
  setIdle _ h := State.ClaimedInv.tableInv (h.claimedInv) nofun
  ret _ _ h := State.ClaimedInv.tableInv (h.claimedInv) nofun
  setReady s k v h := h.of_sameFlags (s.sameFlags_setReady k v) rfl
  cover _ _ h := h
  setFn _ _ h := h
  sensorCommand s b cmd h := h.of_sameFlags (s.sameFlags_sensorCommand b cmd) (by simp)
  deviceStore _ _ _ _ h := h
  completeAccess s b h := h.of_sameFlags (s.sameFlags_completeAccess b) (by simp)
  setWindow _ _ _ _ h := h

/-- The slot REGISTER chooses is one of the table's and unclaimed (R107). -/
theorem State.freeSlot_some {s : State} {j : Nat} (h : s.freeSlot = some j) :
    j < s.slots.length ∧ (s.slot j).claimed = false := by
  obtain ⟨hj, hc, -⟩ := List.findIdx?_eq_some_iff_getElem.mp h
  exact ⟨hj, by simpa [State.slot, List.getD, hj] using hc⟩

theorem RegisterStep.tableInv {pin : Pin} {b : Binding} {f : Byte} {r : StorageRef} {s t : State}
    (h : RegisterStep pin b f r s t) (hs : s.TableInv) : t.TableInv := by
  have hc := hs.claimedInv
  obtain ⟨⟨-, hn, -⟩, -, hl, h3, h4, -⟩ := hs
  cases h with
  | error st => exact State.ClaimedInv.tableInv hc nofun
  | checksPin => exact State.ClaimedInv.tableInv_register hc ⟨rfl, rfl⟩ (by omega) (by omega) (by omega)
  | @choosesSlot j hj =>
    obtain ⟨hj, hu⟩ := State.freeSlot_some hj
    exact State.ClaimedInv.tableInv_register hc ⟨rfl, rfl⟩ (fun _ => hn ▸ hj) (fun _ => hu) (by omega)
  | claims hr =>
    have hlt := hl _ _ _ _ _ hr (by omega)
    refine State.ClaimedInv.tableInv_register (k := 4) (State.ClaimedInv.setSlot hc s.fg.slot fun _ => rfl) ⟨rfl, rfl⟩
      (fun _ => hlt) (by omega) fun _ => ?_
    exact congrArg Slot.claimed (State.slot_setSlot_same s _ _ (hn ▸ hlt))
  | attaches hr =>
    have hlt := hl _ _ _ _ _ hr (by omega)
    have hcl := h4 _ _ _ _ _ hr (by omega)
    refine State.ClaimedInv.tableInv_register (k := 5) (State.ClaimedInv.setSlot hc s.fg.slot fun _ => hcl) ⟨rfl, rfl⟩
      (fun _ => hlt) (by omega) fun _ => ?_
    exact (congrArg Slot.claimed (State.slot_setSlot_same s _ _ (hn ▸ hlt))).trans hcl
  | @frame k reg v hr hk =>
    have hu := (s.sameFlags_memWrite b reg v).claimedInv hc
    simp only [State.writeThen, State.raiseError]
    split
    · refine State.ClaimedInv.tableInv_register (k := k + 1) hu ⟨rfl, rfl⟩ (fun _ => ?_) (by omega) fun _ => ?_
      · simpa using hl _ _ _ _ _ hr (by omega)
      · simpa [State.slot] using h4 _ _ _ _ _ hr (by omega)
    · exact State.ClaimedInv.tableInv hu nofun
  | returns x => exact State.ClaimedInv.tableInv hc nofun

/-- The slot of UNREGISTER is detached after its first line (R110). -/
theorem State.detach_attached (s : State) (k : Nat) : ((s.detach k).slot k).attached = false := by
  unfold State.detach State.setAttached
  split
  · show ((s.setSlot k _).slot k).attached = false
    rw [State.slot_setSlot]
    split
    · rfl
    · rename_i hk
      simp [State.slot, List.getD, Nat.le_of_not_lt fun h => hk ⟨rfl, h⟩, Slot.reset]
  · simp_all

theorem State.ClaimedInv.detach {s : State} (h : s.ClaimedInv) (k : Nat) : (s.detach k).ClaimedInv := by
  unfold State.detach State.setAttached
  split
  · obtain ⟨hz, ha⟩ := h.setSlot k (x := { s.slot k with attached := false }) nofun
    exact ⟨by simpa [State.Sized] using hz, ha⟩
  · exact h

theorem UnregisterStep.tableInv {k : Nat} {s t : State} (h : UnregisterStep k s t) (hs : s.TableInv) : t.TableInv := by
  have hc := hs.claimedInv
  obtain ⟨-, -, -, -, -, hd⟩ := hs
  cases h with
  | detaches => exact State.ClaimedInv.tableInv_unregister (hc.detach k) rfl fun _ => s.detach_attached k
  | releases ho hp =>
    have ha := hd k ho hp
    exact State.ClaimedInv.tableInv_unregister
      (State.ClaimedInv.setSlot hc k (x := { s.slot k with claimed := false }) fun e => by simp [ha] at e) rfl nofun
  | returns x => exact State.ClaimedInv.tableInv hc nofun

theorem exec_tableInv {i : Instr} {s t : State} (hs : s.TableInv) (h : exec i s = .next t) : t.TableInv := by
  by_cases hb : ∃ k, i = .irqBody k
  · obtain ⟨k, rfl⟩ := hb
    exact hs.of_sameFlags (execIrqBody_sameFlags h) (execIrqBody_fg h)
  · cases ht : changesTable i with
    | false => exact exec_kept (keptOffTable_tableInv ht) h (fun k e => hb ⟨k, e⟩) ht hs
    | true =>
      cases i with
      | register pin b f r => exact (execRegister_step h).tableInv hs
      | unregister k => exact (execUnregister_step h).tableInv hs
      | _ => cases ht

theorem State.resetWith_sized {c : Config} (h : c.valid = true) : (State.resetWith c).Sized :=
  ⟨h, List.length_replicate, List.length_replicate, List.length_replicate⟩

theorem State.resetWith_claimedInv {c : Config} (h : c.valid = true) : (State.resetWith c).ClaimedInv :=
  ⟨State.resetWith_sized h, fun i => by simp [Slot.reset]⟩

theorem State.resetWith_pendingInv {c : Config} (h : c.valid = true) : (State.resetWith c).PendingInv :=
  ⟨State.resetWith_sized h, fun i => by simp⟩

theorem step_tableInv {s t : State} (hs : s.TableInv) (h : step s = .next t) : t.TableInv := by
  refine step_keeps_block (P := State.TableInv)
    (fun s t ⟨hc, hl, hv, hp, hf⟩ h => h.of_sameFlags (State.sameFlags_of_fields hc hl hv hp) hf)
    (fun _ _ _ h he => exec_tableInv h he) (fun s p h => h.of_sameFlags (s.sameFlags_edge p) rfl) (fun s h => ?_) hs h
  obtain ⟨⟨hv, -⟩, -⟩ := h
  exact State.ClaimedInv.tableInv (s := s.powerCycled) (State.resetWith_claimedInv hv) nofun

/-! `PendingInv` (R143, R110). -/

theorem latchEdge_getD {p : Pin} {xs : List Slot} {qs : List Bool} {i : Nat} (h : (latchEdge p xs qs).getD i false = true) :
    qs.getD i false = true ∨ (xs.getD i Slot.reset).attached = true := by
  induction xs generalizing qs i with
  | nil => exact .inl h
  | cons x xs ih =>
    cases qs with
    | nil => exact .inl h
    | cons q qs =>
      cases i with
      | zero =>
        simp only [latchEdge, List.getD_cons_zero, Bool.or_eq_true, Bool.and_eq_true] at h ⊢
        exact h.imp_right And.left
      | succ i => exact ih h

/-- A latch that an edge leaves set was set or is that of an attached slot (R143). -/
theorem State.isPending_edge {s : State} {p : Pin} {i : Nat} (h : (s.edge p).isPending i = true) :
    s.isPending i = true ∨ (s.slot i).attached = true := latchEdge_getD h

theorem State.isPending_of_cleared {s : State} {i k : Nat} (h : (s.setPending k false).isPending i = true) :
    i ≠ k ∧ s.isPending i = true := by
  have hk : i ≠ k := by
    rintro rfl
    simp at h
  exact ⟨hk, by rwa [State.isPending_setPending_other s false hk] at h⟩

/-- `PendingInv` stays where each flag stays and no latch of an unattached slot is newly set. -/
theorem State.PendingInv.of_sameFlags {s t : State} (h : s.PendingInv) (hf : s.SameFlags t)
    (hp : ∀ i, t.isPending i = true → s.isPending i = true ∨ (s.slot i).attached = true) : t.PendingInv := by
  obtain ⟨hz, ha⟩ := h
  refine ⟨hf.sized hz, fun i hi => ?_⟩
  obtain ⟨-, -, -, -, hf⟩ := hf
  rw [(hf i).2]
  exact (hp i hi).elim (ha i) id

theorem State.PendingInv.of_pending {s t : State} (h : s.PendingInv) (hf : s.SameFlags t) (e : t.pending = s.pending) :
    t.PendingInv :=
  h.of_sameFlags hf fun i hi => .inl (by simpa [State.isPending, e] using hi)

theorem State.PendingInv.edge {s : State} (h : s.PendingInv) (p : Pin) : (s.edge p).PendingInv :=
  h.of_sameFlags (s.sameFlags_edge p) fun _ => State.isPending_edge

/-- A write of a slot that leaves it attached if it was. -/
theorem State.PendingInv.setSlot {s : State} (h : s.PendingInv) (k : Nat) {x : Slot}
    (hx : (s.slot k).attached = true → x.attached = true) : (s.setSlot k x).PendingInv := by
  obtain ⟨hz, ha⟩ := h
  refine ⟨by simpa [State.Sized] using hz, fun i hi => ?_⟩
  rw [State.slot_setSlot]
  split
  · rename_i hk
    exact hx (hk.1 ▸ ha i hi)
  · exact ha i hi

/-- Detaching a slot clears its latch, so that none is left set (R110). -/
theorem State.PendingInv.detach {s : State} (h : s.PendingInv) (k : Nat) : (s.detach k).PendingInv := by
  unfold State.detach State.setAttached
  split
  · obtain ⟨hz, ha⟩ := h
    refine ⟨by simpa [State.Sized] using hz, fun i hi => ?_⟩
    obtain ⟨hk, hi⟩ := State.isPending_of_cleared hi
    show ((s.setSlot k _).slot i).attached = true
    rw [State.slot_setSlot_other s _ hk]
    exact ha i hi
  · exact h

theorem keptOffTable_pendingInv (i : Instr) : KeptOffTable i State.PendingInv where
  memWrite s b reg v h := h.of_pending (s.sameFlags_memWrite b reg v) (by simp)
  memRead s b reg n h := h.of_pending (s.sameFlags_memRead b reg n) (by simp)
  goes _ _ _ _ h := h
  setIdle _ h := h
  ret _ _ h := h
  setReady s k v h := h.of_pending (s.sameFlags_setReady k v) rfl
  cover _ _ h := h
  setFn _ _ h := h
  sensorCommand s b cmd h := h.of_pending (s.sameFlags_sensorCommand b cmd) (by simp)
  deviceStore _ _ _ _ h := h
  completeAccess s b h := h.of_pending (s.sameFlags_completeAccess b) (by simp)
  setWindow _ _ _ _ h := h

theorem RegisterStep.pendingInv {pin : Pin} {b : Binding} {f : Byte} {r : StorageRef} {s t : State}
    (h : RegisterStep pin b f r s t) (hs : s.PendingInv) : t.PendingInv := by
  cases h with
  | error st => exact hs
  | checksPin => exact hs
  | choosesSlot _ => exact hs
  | claims _ => exact State.PendingInv.setSlot hs s.fg.slot id
  | attaches _ => exact State.PendingInv.setSlot hs s.fg.slot fun _ => rfl
  | frame _ _ => exact (keptOffTable_pendingInv (.register pin b f r)).writeThen (fun _ h => h) hs
  | returns x => exact hs

theorem UnregisterStep.pendingInv {k : Nat} {s t : State} (h : UnregisterStep k s t) (hs : s.PendingInv) :
    t.PendingInv := by
  cases h with
  | detaches => exact hs.detach k
  | releases _ _ => exact State.PendingInv.setSlot hs k id
  | returns x => exact hs

theorem exec_pendingInv {i : Instr} {s t : State} (hs : s.PendingInv) (h : exec i s = .next t) : t.PendingInv := by
  by_cases hb : ∃ k, i = .irqBody k
  · obtain ⟨k, rfl⟩ := hb
    obtain e | e := execIrqBody_pending h
    · exact hs.of_pending (execIrqBody_sameFlags h) e
    · refine hs.of_sameFlags (execIrqBody_sameFlags h) fun j hj => .inl ?_
      exact (State.isPending_of_cleared (s := s) (k := k) (by simpa [State.isPending, e] using hj)).2
  · cases ht : changesTable i with
    | false => exact exec_kept (keptOffTable_pendingInv i) h (fun k e => hb ⟨k, e⟩) ht hs
    | true =>
      cases i with
      | register pin b f r => exact (execRegister_step h).pendingInv hs
      | unregister k => exact (execUnregister_step h).pendingInv hs
      | _ => cases ht

theorem step_pendingInv {s t : State} (hs : s.PendingInv) (h : step s = .next t) : t.PendingInv := by
  refine step_keeps_block (P := State.PendingInv)
    (fun s t ⟨hc, hl, hv, hp, _⟩ h => h.of_pending (State.sameFlags_of_fields hc hl hv hp) hp)
    (fun _ _ _ h he => exec_pendingInv h he) (fun _ p h => h.edge p) (fun s h => ?_) hs h
  obtain ⟨⟨hv, -⟩, -⟩ := h
  exact State.resetWith_pendingInv hv

/-! `OneTransport` (R14). -/

theorem exec_oneTransport {i : Instr} {s t : State} (hs : s.OneTransport) (h : exec i s = .next t) : t.OneTransport := by
  intro j
  have hj := hs j
  by_cases hb : ∃ k, i = .irqBody k
  · obtain ⟨k, rfl⟩ := hb
    obtain ⟨-, hk, ho⟩ := execIrqBody_slotWrite h
    by_cases e : j = k
    · subst e
      generalize t.slot j = y at hk
      cases hk with
      | same | read _ _ | ready _ => exact hj
    · rw [ho j e]
      exact hj
  · have hw := (exec_slotWrite h fun k e => hb ⟨k, e⟩).2 j
    generalize t.slot j = y at hw
    cases hw with
    | same | attach _ _ _ | detach _ | release _ _ | clear _ => exact hj
    | claim _ _ _ => rfl
theorem State.resetWith_oneTransport (c : Config) : (State.resetWith c).OneTransport := fun i => by
  rw [State.resetWith_slot]; rfl

theorem step_oneTransport {s t : State} (hs : s.OneTransport) (h : step s = .next t) : t.OneTransport := by
  refine step_keeps_block (P := State.OneTransport) (fun s t ⟨_, hl, _⟩ h i => ?_)
    (fun _ _ _ h he => exec_oneTransport h he) (fun _ _ h => h) (fun s _ => State.resetWith_oneTransport s.cfg) hs h
  simpa [State.slot, hl] using h i

/-- Settles O52, one invariant at a time. -/
theorem stepKeepsTheTable : Obligations.StepKeepsTheTable := by
  unfold Obligations.StepKeepsTheTable
  intro s t h
  exact ⟨fun hs => step_tableInv hs h, fun hs => step_pendingInv hs h, fun hs => step_oneTransport hs h⟩

/-! The reset state (R35, R161). -/

/-- Settles O8: every slot, vector and latch is that of reset, and the sequencer is IDLE. -/
theorem resetValues : Obligations.ResetValues := by
  unfold Obligations.ResetValues
  refine ⟨fun i => ?_, rfl, rfl, rfl⟩
  have hs : State.reset.slot i = Slot.reset := State.resetWith_slot _ i
  have hv : State.reset.vec i = Vec.reset := State.resetWith_vec _ i
  have hp : State.reset.isPending i = false := State.resetWith_isPending _ i
  rw [hs, hv, hp]
  exact ⟨rfl, rfl, rfl, rfl, rfl, rfl⟩

theorem State.resetWith_oneBody (c : Config) : (State.resetWith c).OneBody := by
  intro i _ hi _
  rw [State.resetWith_vec] at hi
  exact absurd rfl hi

theorem State.resetWith_bodyBindingInv (c : Config) : (State.resetWith c).BodyBindingInv := by
  intro i hi
  rw [State.resetWith_vec] at hi
  exact absurd rfl hi

theorem State.resetWith_registrationsDistinct (c : Config) : (State.resetWith c).RegistrationsDistinct := by
  refine ⟨fun i _ hi => ?_, fun i _ hi => ?_, fun _ _ _ _ ⟨ho, _⟩ => nomatch ho⟩
  · rw [State.resetWith_slot] at hi; cases hi
  · rw [State.resetWith_slot] at hi; cases hi

/-- No operation is in progress, so that nothing is asked of the feeds. -/
theorem State.resetWith_feedOffInv {c : Config} (h : c.valid = true) : (State.resetWith c).FeedOffInv :=
  ⟨h, fun _ => nofun, fun _ _ ho => nomatch ho⟩

/-- No storage is listed, so that none holds a member. -/
theorem State.resetWith_oneMember (c : Config) : (State.resetWith c).OneMember :=
  fun _ => ⟨fun _ => rfl, fun _ => rfl⟩

/-- Settles O9, by the invariants of a reset with any valid parameters. -/
theorem resetMeetsTheInvariants : Obligations.ResetMeetsTheInvariants := by
  unfold Obligations.ResetMeetsTheInvariants
  have hv : Config.standard.valid = true := by decide
  exact ⟨(State.resetWith_claimedInv hv).tableInv nofun, State.resetWith_pendingInv hv, State.resetWith_oneBody _,
    State.resetWith_bodyBindingInv _, State.resetWith_oneTransport _, State.resetWith_registrationsDistinct _,
    ⟨rfl, rfl, rfl⟩, State.resetWith_feedOffInv hv, ⟨fun _ => rfl, fun _ => rfl⟩, State.resetWith_oneMember _⟩

end Sys2Proof.Machine
end

section
/-! PROOFS. The sensor's side of an extended access: the control codes (O17), its completion (O18), and the frame of
ERA_READ, ERA_WRITE and ERA_POLL (O25). -/

namespace Sys2Proof.Machine

open Sys2Proof.Claims

/-! What an update of one sensor and its bytes leaves alone. -/

theorem State.onBus_reaches {s : State} {b : Binding} (h : s.cfg.reaches b = true) (t : State) :
    s.onBus b t = .next t := by
  simp [State.onBus, (Laws.Admission.binding_iff s.cfg b).mpr h]

/-! The control codes (R30, R48, R68). -/

/-- A control code starts its access at the sensor and changes nothing else of it (R48). -/
theorem State.deviceStore_ctrl_sensor {s : State} (b : Binding) {v : Byte} (hc : s.cfg.valid = true) (hv : v ≠ 0) :
    (s.deviceStore b s.cfg.regEraCtrl v).sensor b = { s.sensor b with pend := v } := by
  obtain ⟨-, -, -, -, hs, -, -, -, hf, -, -, -, -, hh, hl⟩ := Config.valid_regs hc
  rw [State.deviceStore_sensor]
  simp only [sensorAfterStore, hs.symm, hf.symm, hh.symm, hl.symm, or_self, false_and, true_and, if_false]
  rw [if_pos hv]

theorem State.deviceStore_window (s : State) (b : Binding) (r : Reg) (v : Byte) :
    (s.deviceStore b r v).window b r = some v := State.window_setWindow_same s b r (some v)

theorem State.deviceStore_byteAt_other (s : State) (b : Binding) (r : Reg) (v : Byte) {a : Nat}
    (h : a ≠ windowAddr b r) : (s.deviceStore b r v).byteAt a = s.byteAt a :=
  State.byteAt_setByte_other s (some v) h

/-- A non-zero code, sent to the control register, starts its access and changes nothing else. -/
theorem State.onBus_ctrl {s : State} {b : Binding} {v : Byte} (hc : s.cfg.valid = true) (hb : s.cfg.reaches b = true)
    (hv : v ≠ 0) :
    ∃ t, s.onBus b (s.deviceStore b s.cfg.regEraCtrl v) = .next t ∧ t.sensor b = { s.sensor b with pend := v } ∧
      t.window b s.cfg.regEraCtrl = some v ∧
      (∀ a, a ≠ windowAddr b s.cfg.regEraCtrl → t.byteAt a = s.byteAt a) ∧
      TableSame s t ∧ OutsideSame s t ∧ OtherSensorsSame s t b ∧ t.fg = s.fg ∧ t.trace = s.trace ∧
      t.result = s.result :=
  ⟨_, State.onBus_reaches hb _, s.deviceStore_ctrl_sensor b hc hv, s.deviceStore_window b _ v,
    fun _ => s.deviceStore_byteAt_other b _ v, ⟨rfl, rfl, rfl, rfl, rfl, rfl⟩, ⟨rfl, rfl, rfl, rfl, rfl, rfl, rfl⟩,
    fun _ => s.deviceStore_sensor_other _ v, rfl, rfl, rfl⟩

/-- Settles O17: each of the two codes is a non-zero byte stored at the control register. -/
theorem controlCodesStartAnAccess : Obligations.ControlCodesStartAnAccess := by
  unfold Obligations.ControlCodesStartAnAccess
  intro s b hc hb
  obtain ⟨hr, hw, -⟩ := Config.valid_codes hc
  exact ⟨State.onBus_ctrl hc hb hr, State.onBus_ctrl hc hb hw⟩

/-! The completion of an access (R30, R33, R97). -/

/-- The part of a completion that moves a byte: a read to the value register, a write to the target (R30). -/
def State.transfer (s : State) (b : Binding) : State :=
  if (s.sensor b).pend = s.cfg.eraCtrlReadInc then s.setWindow b s.cfg.regEraValue (s.eraByte b (s.sensor b).target)
  else if (s.sensor b).pend = s.cfg.eraCtrlWrite then
    (s.setEraByte b (s.sensor b).target (s.window b s.cfg.regEraValue)).setWindow b s.cfg.regEraValue
      (s.valueAfterWrite b)
  else s

/-- But for the control and the status register a completion leaves the bytes that the transfer does. -/
theorem State.completeAccess_byteAt (s : State) (b : Binding) {a : Nat} (hc : a ≠ windowAddr b s.cfg.regEraCtrl)
    (hs : a ≠ windowAddr b s.cfg.regStatus) : (s.completeAccess b).byteAt a = (s.transfer b).byteAt a :=
  (State.byteAt_setByte_other _ _ hs).trans (State.byteAt_setByte_other _ _ hc)

theorem State.completeAccess_eraByte (s : State) (b : Binding) (a : EraAddr) :
    (s.completeAccess b).eraByte b a = (s.transfer b).eraByte b a :=
  s.completeAccess_byteAt b (windowAddr_ne_eraAddr b b _ a).symm (windowAddr_ne_eraAddr b b _ a).symm

theorem State.completeAccess_window_value {s : State} (b : Binding) (h : s.cfg.valid = true) :
    (s.completeAccess b).window b s.cfg.regEraValue = (s.transfer b).window b s.cfg.regEraValue := by
  obtain ⟨-, hsv, -, -, -, -, -, -, -, -, -, hvc, -⟩ := Config.valid_regs h
  exact s.completeAccess_byteAt b (windowAddr_ne b hvc) (windowAddr_ne b hsv.symm)

/-- After a completion the control register reads zero (R30). -/
theorem State.completeAccess_window_ctrl {s : State} (b : Binding) (h : s.cfg.valid = true) :
    (s.completeAccess b).window b s.cfg.regEraCtrl = some 0 := by
  obtain ⟨-, -, -, -, hsc, -⟩ := Config.valid_regs h
  exact (State.window_setWindow_other _ b _ hsc.symm).trans (State.window_setWindow_same _ b _ _)

/-- After a completion none is in progress, and the target has moved or stayed (R30, R33). -/
theorem State.completeAccess_sensor (s : State) (b : Binding) :
    (s.completeAccess b).sensor b =
      { s.sensor b with target := s.targetAfter b (s.sensor b).pend, pend := 0 } :=
  State.sensor_setSensor_same _ b _

theorem State.eraByte_setWindow (s : State) (b : Binding) (r : Reg) (v : Option Byte) (a : EraAddr) :
    (s.setWindow b r v).eraByte b a = s.eraByte b a :=
  State.byteAt_setByte_other s v (windowAddr_ne_eraAddr b b r a).symm

theorem State.eraByte_setEraByte_other (s : State) (b : Binding) {a a' : EraAddr} (v : Option Byte) (h : a' ≠ a) :
    (s.setEraByte b a v).eraByte b a' = s.eraByte b a' :=
  State.byteAt_setByte_other s v (eraAddr_ne b h)

/-- What an access in progress does to the value register, the ERA space and the target when it completes, by its code
(R30, R33, R97; log 10, log 31). -/
theorem State.completeAccess_effect {s : State} (b : Binding) (hv : s.cfg.valid = true) :
    let t := s.completeAccess b
    let x := s.sensor b
    (x.pend ≠ s.cfg.eraCtrlReadInc → x.pend ≠ s.cfg.eraCtrlWrite →
      t.window b s.cfg.regEraValue = s.window b s.cfg.regEraValue ∧
      (t.sensor b).target = x.target ∧ ∀ a, t.eraByte b a = s.eraByte b a) ∧
    (x.pend = s.cfg.eraCtrlReadInc →
      t.window b s.cfg.regEraValue = s.eraByte b x.target ∧
      (t.sensor b).target = x.target + 1 ∧ ∀ a, t.eraByte b a = s.eraByte b a) ∧
    (x.pend = s.cfg.eraCtrlWrite →
      t.eraByte b x.target = s.window b s.cfg.regEraValue ∧
      (∀ a, a ≠ x.target → t.eraByte b a = s.eraByte b a) ∧
      ((t.sensor b).target = x.target ∨ (t.sensor b).target = x.target + 1) ∧
      (deviceModel s.cfg b = .refSim →
        t.window b s.cfg.regEraValue = s.window b s.cfg.regEraValue ∧ (t.sensor b).target = x.target)) := by
  dsimp only
  simp only [State.completeAccess_window_value b hv, State.completeAccess_eraByte, State.completeAccess_sensor,
    State.transfer, State.targetAfter]
  refine ⟨fun hr hw => ?_, fun hr => ?_, fun hw => ?_⟩
  · simp only [hr, hw, if_false, false_and, implies_true, and_self]
  · simp only [hr, if_true, State.window_setWindow_same, State.eraByte_setWindow, implies_true, and_self]
  · have hr : (s.sensor b).pend ≠ s.cfg.eraCtrlReadInc := by
      rw [hw]; exact (Config.valid_codes hv).2.2.symm
    rw [hw] at hr
    simp only [hw, hr, if_false, if_true, true_and, State.eraByte_setWindow, State.eraByte_setEraByte_same,
      State.window_setWindow_same]
    refine ⟨fun a ha => State.eraByte_setEraByte_other s b _ ha, ?_, fun hd => ?_⟩
    · split
      · exact .inr rfl
      · exact .inl rfl
    · simp [State.valueAfterWrite, hd]

/-- Settles O18: plain storage performs nothing, with no access in progress the control register alone is written, and
an access in progress completes. -/
theorem completedAccessTakesEffect : Obligations.CompletedAccessTakesEffect := by
  unfold Obligations.CompletedAccessTakesEffect
  intro s b hv hb
  have hx : exec (.eraCtrlDone b) s = .next (if deviceModel s.cfg b = .plainStorage then s
      else if (s.sensor b).pend = 0 then s.setWindow b s.cfg.regEraCtrl (some 0) else s.completeAccess b) :=
    State.onBus_reaches hb _
  refine ⟨fun hd => by rw [hx, if_pos hd], fun hd => ?_⟩
  rw [hx, if_neg hd]
  by_cases hp : (s.sensor b).pend = 0
  · rw [if_pos hp, hp]
    obtain ⟨hr, hw, -⟩ := Config.valid_codes hv
    obtain ⟨-, -, -, -, -, -, -, -, -, -, -, hvc, -⟩ := Config.valid_regs hv
    exact ⟨_, rfl, State.window_setWindow_same s b _ _, hp,
      fun _ _ => ⟨State.window_setWindow_other s b _ hvc, rfl, s.eraByte_setWindow b _ _⟩,
      fun e => absurd e.symm hr, fun e => absurd e.symm hw,
      fun a _ _ hc _ => State.byteAt_setByte_other s _ hc, rfl, rfl, ⟨rfl, rfl, rfl, rfl, rfl, rfl⟩,
      ⟨rfl, rfl, rfl, rfl, rfl, rfl, rfl⟩, fun _ _ => rfl, rfl, rfl, rfl⟩
  · rw [if_neg hp]
    obtain ⟨hOther, hRead, hWrite⟩ := State.completeAccess_effect b hv
    exact ⟨_, rfl, State.completeAccess_window_ctrl b hv, by rw [State.completeAccess_sensor], hOther, hRead, hWrite,
      fun a h1 h2 h3 h4 => s.completeAccess_byteAt_other b a h1 h3 h2 h4, by rw [State.completeAccess_sensor],
      by rw [State.completeAccess_sensor], by simp [TableSame], by simp [OutsideSame],
      fun _ => s.completeAccess_sensor_other, by simp, by simp, by simp⟩

end Sys2Proof.Machine
end

section
/-! PROOFS. A step of an extended access is one frame to its own sensor and a move of the sequencer; what it leaves
alone follows from what one frame does (O25). -/

namespace Sys2Proof.Machine

open Sys2Proof.Claims

/-! One frame and the sequencer. -/

/-- `t` is `s` but for the sequencer and the answer. -/
def State.SequencerMoved (s t : State) : Prop := ∃ x r, t = { s with fg := x, result := r }

theorem State.sequencerMoved_goes (s : State) (x : Fg) (i : Instr) (p : Phase) :
    s.SequencerMoved ((s.setFg x).goto i p) := ⟨_, _, rfl⟩

theorem State.sequencerMoved_goto (s : State) (i : Instr) (p : Phase) : s.SequencerMoved (s.goto i p) := ⟨_, _, rfl⟩

theorem State.sequencerMoved_ret (s : State) (r : Result) : s.SequencerMoved (s.ret r) := ⟨_, _, rfl⟩

theorem State.sequencerMoved_writeThen (s : State) (b : Binding) (reg : Reg) (v : Byte) {k : State → State}
    (hk : ∀ u, State.SequencerMoved u (k u)) : (s.memWrite b reg v).2.SequencerMoved (s.writeThen b reg v k) := by
  simp only [State.writeThen, State.raiseError]
  split
  · exact hk _
  · exact State.sequencerMoved_ret _ _

theorem State.sequencerMoved_readThen (s : State) (b : Binding) (reg : Reg) (n : Nat) {k : List Byte → State → State}
    (hk : ∀ bytes u, State.SequencerMoved u (k bytes u)) :
    (s.memRead b reg n).2.SequencerMoved (s.readThen b reg n k) := by
  simp only [State.readThen, State.raiseError]
  split
  · exact hk _ _
  · exact State.sequencerMoved_ret _ _

theorem State.sequencerMoved_pollThen (s : State) (i : Instr) (b : Binding) {k : State → State}
    (hk : ∀ u, State.SequencerMoved u (k u)) :
    (s.memRead b s.cfg.regEraCtrl 1).2.SequencerMoved (s.pollThen i b k) := by
  refine s.sequencerMoved_readThen b _ 1 fun bytes u => ?_
  split
  · exact hk u
  · split
    · exact u.sequencerMoved_ret _
    · exact u.sequencerMoved_goes _ i _

/-- The registers an extended access writes (R95, R96). -/
def eraRegs (c : Config) : List Reg :=
  [c.regFeed1, c.regEraValue, c.regEraAddrHi, c.regEraAddrLo, c.regEraCtrl, c.regStatus]

/-- What a step of an extended access at the sensor of `b` is: one write frame to one of its registers, or one read
frame, at the most with the sequencer cleared before it, and then a move of the sequencer (R94, R95, R96). -/
inductive EraStep (b : Binding) (s t : State) : Prop where
  | writes (reg : Reg) (v : Byte) : reg ∈ eraRegs s.cfg → (s.memWrite b reg v).2.SequencerMoved t → EraStep b s t
  | reads (x : Fg) (reg : Reg) (n : Nat) : ((s.setFg x).memRead b reg n).2.SequencerMoved t → EraStep b s t

/-- A write frame of an extended access, then a move of the sequencer. -/
theorem EraStep.of_writeThen {b : Binding} {s : State} {reg : Reg} {v : Byte} {k : State → State}
    (hr : reg ∈ eraRegs s.cfg) (hk : ∀ u, State.SequencerMoved u (k u)) : EraStep b s (s.writeThen b reg v k) :=
  .writes reg v hr (s.sequencerMoved_writeThen b reg v hk)

/-- A poll, whatever stands in the sequencer before it. -/
theorem EraStep.of_pollThen {b : Binding} {s : State} (x : Fg) {i : Instr} {k : State → State}
    (hk : ∀ u, State.SequencerMoved u (k u)) : EraStep b s ((s.setFg x).pollThen i b k) :=
  .reads x _ 1 ((s.setFg x).sequencerMoved_pollThen i b hk)

theorem eraReadPhase_step {b : Binding} {feed1 : Byte} {addr : EraAddr} {n : Byte} {s t : State} {p : Phase}
    (h : eraReadPhase b feed1 addr n s p = .next t) : EraStep b s t := by
  cases p with
  | idle | feedOff =>
    injection h with h; subst h
    exact .of_writeThen (by simp [eraRegs]) fun u => u.sequencerMoved_goes _ _ _
  | valueW | line k => cases h
  | addrHi =>
    rw [(State.eraGuard_next h).2]; exact .of_writeThen (by simp [eraRegs]) fun u => u.sequencerMoved_goto _ _
  | addrLo =>
    rw [(State.eraGuard_next h).2]
    refine .of_writeThen (by simp [eraRegs]) fun u => ?_
    split
    · exact u.sequencerMoved_ret _
    · exact u.sequencerMoved_goto _ _
  | ctrl =>
    rw [(State.eraGuard_next h).2]; exact .of_writeThen (by simp [eraRegs]) fun u => u.sequencerMoved_goes _ _ _
  | poll => rw [(State.eraGuard_next h).2]; exact .of_pollThen s.fg fun u => u.sequencerMoved_goto _ _
  | value =>
    rw [(State.eraGuard_next h).2]
    exact .reads s.fg _ 1 (s.sequencerMoved_readThen b _ 1 fun _ u => u.sequencerMoved_goes _ _ _)
  | clear =>
    rw [(State.eraGuard_next h).2]
    refine .of_writeThen (by simp [eraRegs]) fun u => ?_
    unfold State.eraNextByte
    split
    · exact u.sequencerMoved_goes _ _ _
    · exact u.sequencerMoved_ret _

theorem eraWritePhase_step {b : Binding} {feed1 : Byte} {addr : EraAddr} {data : Byte} {s t : State} {p : Phase}
    (h : eraWritePhase b feed1 addr data s p = .next t) : EraStep b s t := by
  cases p with
  | idle | feedOff =>
    injection h with h; subst h
    exact .of_writeThen (by simp [eraRegs]) fun u => u.sequencerMoved_goes _ _ _
  | value | line k => cases h
  | valueW | addrHi | addrLo =>
    rw [(State.eraGuard_next h).2]; exact .of_writeThen (by simp [eraRegs]) fun u => u.sequencerMoved_goto _ _
  | ctrl =>
    rw [(State.eraGuard_next h).2]; exact .of_writeThen (by simp [eraRegs]) fun u => u.sequencerMoved_goes _ _ _
  | poll => rw [(State.eraGuard_next h).2]; exact .of_pollThen s.fg fun u => u.sequencerMoved_goto _ _
  | clear =>
    rw [(State.eraGuard_next h).2]; exact .of_writeThen (by simp [eraRegs]) fun u => u.sequencerMoved_ret _

/-- Every step of ERA_READ, ERA_WRITE and ERA_POLL is an `EraStep` at its own sensor. -/
theorem exec_eraStep {i : Instr} {b : Binding} {s t : State} (hi : eraBinding i = some b ∨ i = .eraPoll b)
    (h : exec i s = .next t) : EraStep b s t := by
  cases i with
  | eraRead b' feed1 addr n =>
    obtain rfl : b' = b := by simpa [eraBinding] using hi
    obtain ⟨-, p, -, -, h⟩ := State.accept_next h
    exact eraReadPhase_step h
  | eraWrite b' feed1 addr v =>
    obtain rfl : b' = b := by simpa [eraBinding] using hi
    obtain ⟨-, p, -, -, h⟩ := State.accept_next h
    exact eraWritePhase_step h
  | eraPoll b' =>
    obtain rfl : b' = b := by simpa [eraBinding] using hi
    obtain ⟨-, p, -, -, h⟩ := State.accept_next h
    cases p with
    | idle => rw [(State.eraGuard_next h).2]; exact .of_pollThen Fg.idle fun u => u.sequencerMoved_ret _
    | poll => rw [(State.eraGuard_next h).2]; exact .of_pollThen s.fg fun u => u.sequencerMoved_ret _
    | feedOff | valueW | addrHi | addrLo | ctrl | value | clear | line k => cases h
  | _ => simp [eraBinding] at hi

/-! What one frame leaves alone. -/

/-- A write frame reaches the sensor or does not, and is recorded (R84, U4). -/
theorem State.memWrite_cases (s : State) (b : Binding) (reg : Reg) (v : Byte) :
    ∃ e, (s.memWrite b reg v).2 = s.record e ∨ (s.memWrite b reg v).2 = (s.sensorWrite b reg v).record e := by
  simp only [State.memWrite]
  split
  · split
    · exact ⟨_, .inr rfl⟩
    · exact ⟨_, .inl rfl⟩
  · exact ⟨_, .inr rfl⟩

theorem State.memWrite_sensor_other (s : State) {b b' : Binding} (reg : Reg) (v : Byte)
    (h : sensorKey b' ≠ sensorKey b) : (s.memWrite b reg v).2.sensor b' = s.sensor b' := by
  obtain ⟨e, he | he⟩ := s.memWrite_cases b reg v
  · rw [he]; rfl
  · rw [he]; exact s.sensorWrite_sensor_other reg v h

theorem State.memWrite_byteAt_other (s : State) (b : Binding) (reg : Reg) (v : Byte) {a : Nat}
    (hv : s.cfg.valid = true) (h : a ≠ windowAddr b reg) : (s.memWrite b reg v).2.byteAt a = s.byteAt a := by
  obtain ⟨e, he | he⟩ := s.memWrite_cases b reg v
  · rw [he]; rfl
  · rw [he]; exact s.sensorWrite_byteAt_other b reg v a hv h

theorem EraStep.tableSame {b : Binding} {s t : State} (h : EraStep b s t) : TableSame s t := by
  cases h with
  | writes reg v _ hm => obtain ⟨x, r, rfl⟩ := hm; simp [TableSame]
  | reads y reg n hm => obtain ⟨x, r, rfl⟩ := hm; simp [TableSame]

theorem EraStep.outsideSame {b : Binding} {s t : State} (h : EraStep b s t) : OutsideSame s t := by
  cases h with
  | writes reg v _ hm => obtain ⟨x, r, rfl⟩ := hm; simp [OutsideSame]
  | reads y reg n hm => obtain ⟨x, r, rfl⟩ := hm; simp [OutsideSame]

theorem EraStep.otherSensorsSame {b : Binding} {s t : State} (h : EraStep b s t) : OtherSensorsSame s t b := by
  intro b' hb
  cases h with
  | writes reg v _ hm => obtain ⟨x, r, rfl⟩ := hm; exact s.memWrite_sensor_other reg v hb
  | reads y reg n hm => obtain ⟨x, r, rfl⟩ := hm; exact (s.setFg y).memRead_sensor_other reg n hb

/-- A write stores at its register, a read at most what a completed access stores (R30, R48). -/
theorem EraStep.byteAt_other {b : Binding} {s t : State} (h : EraStep b s t) (hv : s.cfg.valid = true) {a : Nat}
    (ha : ∀ reg ∈ eraRegs s.cfg, a ≠ windowAddr b reg) (ht : a ≠ eraAddr b (s.sensor b).target) :
    t.byteAt a = s.byteAt a := by
  cases h with
  | writes reg v hr hm => obtain ⟨x, r, rfl⟩ := hm; exact s.memWrite_byteAt_other b reg v hv (ha reg hr)
  | reads y reg n hm =>
    obtain ⟨x, r, rfl⟩ := hm
    exact (s.setFg y).memRead_byteAt_other b reg n a (ha _ (by simp [eraRegs])) (ha _ (by simp [eraRegs]))
      (ha _ (by simp [eraRegs])) ht

/-- Settles O25: a step of an extended access is one frame at its own sensor. -/
theorem eraLeavesTheBlockAlone : Obligations.EraLeavesTheBlockAlone := by
  unfold Obligations.EraLeavesTheBlockAlone
  intro s t i b hv hi h
  have hs := exec_eraStep hi h
  refine ⟨hs.tableSame, hs.outsideSame, hs.otherSensorsSame, fun a h1 h2 h3 h4 h5 h6 => hs.byteAt_other hv ?_⟩
  simp [eraRegs, h1, h2, h3, h4, h5, h6]

end Sys2Proof.Machine
end

section
/-! PROOFS. What the host reads of a storage after CONSUME_READY was true (O50): the read is covered, and CLEAR_READY
and a write of the same tag leave it so (R55). -/

namespace Sys2Proof.Machine

open Sys2Proof.Claims

/-- The model's own bit `covered` is in no field the host reads. -/
theorem fieldValue_covered (x : Sample) (c : Bool) (f : SampleField) :
    fieldValue { x with covered := c } f = fieldValue x f := by
  cases f <;> rfl

/-- An operation that may start runs its body from IDLE. -/
theorem State.accept_idle {s : State} {i : Instr} (ha : Laws.Admission.Statement i) (h : Idle s i)
    (hr : ∀ low, i ≠ .cmdReserved low) (body : Phase → Host.Outcome State Fault Refusal) :
    s.accept i body = body .idle := by
  obtain ⟨⟨-, hw, hm⟩, ho⟩ := h
  exact s.accept_eq i .idle body ((ha s.cfg).mpr ⟨hw, hr⟩) (State.phaseOf_idle i ho) hm

theorem exec_consumeReady {s : State} {i : Nat} (h : Idle s (.consumeReady i)) :
    exec (.consumeReady i) s = .next ((s.coverSample i).ret { st := .ok, rbool := some (s.readyAnswer i) }) :=
  State.accept_idle (Laws.Admission.consumeReady i) h nofun _

theorem exec_clearReady {s : State} {i : Nat} (h : Idle s (.clearReady i)) :
    exec (.clearReady i) s = .next ((s.setReady i false).ret { st := .ok }) :=
  State.accept_idle (Laws.Admission.clearReady i) h nofun _

/-- After CONSUME_READY of slot `i` its CLEAR_READY may start: the sequencer is IDLE and the bounds are the same (R69). -/
theorem idle_clearReady_ret {s t : State} {i : Nat} (h : Idle s (.consumeReady i)) (hc : t.cfg = s.cfg) (r : Result) :
    Idle (t.ret r) (.clearReady i) := by
  obtain ⟨⟨hv, hw, -⟩, -⟩ := h
  exact ⟨⟨hc ▸ hv, (congrArg (Instr.wf · (.clearReady i)) hc).trans hw, rfl⟩, rfl⟩

/-- A flag seen set covers the storage of its slot (R55 (2)). -/
theorem State.coverSample_ready {s : State} {i : Nat} (hc : (s.slot i).claimed = true) (hr : (s.slot i).ready = true) :
    s.coverSample i = s.setSample (s.slot i).sampleRef { s.sample (s.slot i).sampleRef with covered := true } :=
  if_pos ⟨hc, hr⟩

/-- A write of the tag that leaves field `f` selected leaves its value. -/
theorem Sample.retag_covered_fieldValue {x : Sample} {m : Mode} {f : SampleField}
    (hf : fieldMode f = none ∨ fieldMode f = some x.mode) (hm : m = x.mode ∨ f = .timestamp) :
    (fieldMode f = none ∨ fieldMode f = some m) ∧ fieldValue (x.retag m) f = fieldValue x f := by
  obtain rfl | rfl := hm
  · refine ⟨hf, ?_⟩
    by_cases h : f = .mode
    · rw [h]; rfl
    · exact x.retag_fieldValue _ f h hf
  · exact ⟨.inl rfl, rfl⟩

/-- Settles O50: CONSUME_READY sets the model's bit `covered`, which CLEAR_READY and a write of the tag leave set. -/
theorem coveredReadsSeeTheSample : Obligations.CoveredReadsSeeTheSample := by
  unfold Obligations.CoveredReadsSeeTheSample
  refine fun s r f => ⟨fun hf v hv i hi hcl hrd hr => ?_, fun hc hf v hv m t hm ht => ?_, fun m hf hm => ?_⟩
  · subst hr
    have hload : ∀ u : State, u.sample (s.slot i).sampleRef = { s.sample (s.slot i).sampleRef with covered := true } →
        u.load (s.slot i).sampleRef f = .next { u with loaded := v :: u.loaded } := fun u hu =>
      State.load_covered (by rw [hu]) (by rw [hu]; exact hf) (by rw [hu, fieldValue_covered, hv])
    refine ⟨_, _, exec_consumeReady hi, hload _ ?_, exec_clearReady (idle_clearReady_ret hi ?_ _), hload _ ?_⟩
    · rw [State.coverSample_ready hcl hrd]; exact State.sample_setSample_same s _ _
    · rw [State.coverSample_ready hcl hrd]; rfl
    · rw [State.coverSample_ready hcl hrd]; exact State.sample_setSample_same s _ _
  · obtain ⟨-, rfl⟩ := State.writeMode_next ht
    obtain ⟨hf', hv'⟩ := Sample.retag_covered_fieldValue hf hm
    have hs := State.sample_setSample_same s r ((s.sample r).retag m)
    exact State.load_covered (by rw [hs]; exact hc) (by rw [hs]; exact hf') (by rw [hs, hv', hv])
  · have hne : ¬(fieldMode f = none ∨ fieldMode f = some (s.sample r).mode) := by simp [hf, hm]
    exact if_neg hne

end Sys2Proof.Machine
end

section
/-! PROOFS. What a read of plain storage gives (O11): the bytes of its registers in ascending order, none changed. -/

namespace Sys2Proof.Machine

open Sys2Proof.Claims

theorem exec_rapRead {s : State} {b : Binding} {reg : Reg} {count : BitVec 6} (h : Idle s (.rapRead b reg count)) :
    exec (.rapRead b reg count) s =
      .next (s.readThen b reg count.toNat fun bytes t => t.ret { st := .ok, rbytes := some bytes }) :=
  State.accept_idle (Laws.Admission.rapRead b reg count) h nofun _

/-- A read frame of plain storage that is done gives the register's bytes in ascending order, each that nothing has
written free, and changes no byte (R26, R42, R88). -/
theorem State.memRead_plainStorage {s : State} {b : Binding} (reg : Reg) (n : Nat) (hv : s.cfg.valid = true)
    (hd : deviceModel s.cfg b = .plainStorage) (hf : s.answer.fail = false) :
    (s.memRead b reg n).2.mem = s.mem ∧
    (s.memRead b reg n).1 = some ((List.range n).map fun j =>
      (s.window b (reg + BitVec.ofNat 5 j)).getD (s.freeByte j)) := by
  obtain ⟨hm, hb⟩ := deviceSupply_plainStorage b n 0 (s.sensorCommand b (readCommand s.cfg reg)) (by simpa using hd)
  have hp : ((s.sensorCommand b (readCommand s.cfg reg)).sensor b).ptr = reg := by
    rw [s.sensorCommand_read b reg hv, State.sensor_setSensor_same]
  constructor
  · simpa [State.memRead, hf] using hm
  · rw [(s.memRead_done b reg n hf).1, hb, hp]
    simp [State.window]

theorem State.readThen_of_bytes {s : State} {b : Binding} {reg : Reg} {n : Nat} {bytes : List Byte}
    (k : List Byte → State → State) (h : (s.memRead b reg n).1 = some bytes) :
    s.readThen b reg n k = k bytes (s.memRead b reg n).2 := by
  simp [State.readThen, h]

/-- Settles O11: the frame of RAP_READ is a read of plain storage from its first register on. -/
theorem readBytesAscend : Obligations.ReadBytesAscend := by
  unfold Obligations.ReadBytesAscend
  intro s b reg count hi hf hd
  have he := exec_rapRead hi
  obtain ⟨⟨hv, -, -⟩, -⟩ := hi
  obtain ⟨hm, hb⟩ := State.memRead_plainStorage reg count.toNat hv hd hf
  rw [State.readThen_of_bytes _ hb] at he
  refine ⟨_, _, he, ⟨rfl, rfl⟩, fun k v hk hw => ?_, fun a => congrArg (Sparse.get? · a) hm⟩
  simp [hk, hw]

end Sys2Proof.Machine
end

section
/-! PROOFS. What the body of a vector works on (O56): the binding and the storage its slot holds, with the storage's
tag. Said once for all its steps: what a body does to its vector, to the storages and to the slots. -/

namespace Sys2Proof.Machine

/-! A step of a body (R122, R131). -/

/-- What a step of a body may do to its own vector: step 0 reads the slot and the tag, a later step keeps that working
copy, and a failed frame ends the body (R122, R128, R131). -/
inductive BodyVecWrite (s : State) (i : Nat) : Vec → Prop where
  | same : BodyVecWrite s i (s.vec i)
  | dispatch : BodyVecWrite s i { s.vec i with
      ph := .read
      rbind := ⟨(s.slot i).rapRead, (s.slot i).busAddress, (s.slot i).busSpeed⟩
      wbind := ⟨(s.slot i).rapWrite, (s.slot i).busAddress, (s.slot i).busSpeed⟩
      sref := (s.slot i).sampleRef
      mode := (s.sample (s.slot i).sampleRef).mode }
  | goesOn (p : VecPhase) : (s.vec i).ph ≠ .idle → BodyVecWrite s i { s.vec i with ph := p }
  | fails : BodyVecWrite s i { s.vec i with fault := true, ph := .idle }

theorem BodyVecWrite.of_set {s t : State} {i : Nat} {x : Vec} (e : t.vecs = s.vecs.set i x) (h : BodyVecWrite s i x) :
    BodyVecWrite s i (t.vec i) := by
  have ht : t.vec i = (s.setVec i x).vec i := by simp [State.vec, e]
  rw [ht, State.vec_setVec]
  split
  · exact h
  · exact .same

theorem execIrqBody_vecWrite {i : Nat} {s t : State} (h : exec (.irqBody i) s = .next t) :
    BodyVecWrite s i (t.vec i) := by
  obtain ⟨-, ⟨-, -, rfl⟩ | ⟨hp, rfl⟩ | ⟨hp, rfl⟩ | ⟨hp, rfl⟩ | ⟨hp, rfl⟩ | ⟨hp, rfl⟩⟩ := execIrqBody_next h
  · exact .of_set rfl .dispatch
  · unfold State.bodyRead
    dsimp only
    split
    · exact .of_set (by simp [State.vec]) (.goesOn .stamp (by simp [hp]))
    · exact .of_set (by rw [State.vecFail_vecs]; simp [State.vec]) .fails
  · exact .of_set rfl (.goesOn .clear (by simp [hp]))
  · unfold State.bodyClear
    dsimp only
    split
    · exact .of_set (by simp [State.vec]) (.goesOn .decode (by simp [hp]))
    · exact .of_set (by rw [State.vecFail_vecs]; simp [State.vec]) .fails
  · exact .of_set rfl (.goesOn .setReady (by simp [hp]))
  · exact .of_set rfl (.goesOn .idle (by simp [hp]))

/-- What a step of the body of vector `i` may do to storage `r`, and in which phase: the dispatch ends its coverage,
STAMP writes the time and DECODE the member of the working copy's tag (R55, R122). -/
inductive BodySampleWrite (s : State) (i : Nat) (r : StorageRef) : Sample → Prop where
  | same : BodySampleWrite s i r (s.sample r)
  | uncover : r = (s.slot i).sampleRef → BodySampleWrite s i r { s.sample r with covered := false }
  | stamp : (s.vec i).ph = .stamp → r = (s.vec i).sref → BodySampleWrite s i r { s.sample r with timestamp := s.now }
  | decode : (s.vec i).ph = .decode → r = (s.vec i).sref →
      BodySampleWrite s i r (decodeInto (s.vec i).mode (s.slot i).raw (s.sample r))

theorem BodySampleWrite.of_samples {s t : State} {i : Nat} {r : StorageRef} (e : t.samples = s.samples) :
    BodySampleWrite s i r (t.sample r) := by
  have ht : t.sample r = s.sample r := by simp [State.sample, e]
  rw [ht]
  exact .same

/-- A write of storage `r'`, seen from storage `r`. -/
theorem BodySampleWrite.of_set {s t : State} {i : Nat} {r r' : StorageRef} {x : Sample}
    (e : t.samples = (s.setSample r' x).samples) (h : r = r' → BodySampleWrite s i r x) :
    BodySampleWrite s i r (t.sample r) := by
  have ht : t.sample r = (s.setSample r' x).sample r := by rw [State.sample, e]; rfl
  rw [ht]
  by_cases hr : r = r'
  · subst hr
    rw [State.sample_setSample_same]
    exact h rfl
  · rw [State.sample_setSample_other s x hr]
    exact .same

theorem State.bodyRead_samples (s : State) (i : Nat) : (s.bodyRead i).samples = s.samples := by
  unfold State.bodyRead
  dsimp only
  split <;> simp

theorem State.bodyClear_samples (s : State) (i : Nat) : (s.bodyClear i).samples = s.samples := by
  unfold State.bodyClear
  dsimp only
  split <;> simp

theorem execIrqBody_sampleWrite {i : Nat} {s t : State} (h : exec (.irqBody i) s = .next t) (r : StorageRef) :
    BodySampleWrite s i r (t.sample r) := by
  obtain ⟨-, ⟨-, -, rfl⟩ | ⟨-, rfl⟩ | ⟨hp, rfl⟩ | ⟨-, rfl⟩ | ⟨hp, rfl⟩ | ⟨-, rfl⟩⟩ := execIrqBody_next h
  · exact .of_set rfl fun hr => hr ▸ .uncover hr
  · exact .of_samples (s.bodyRead_samples i)
  · exact .of_set rfl fun hr => hr ▸ .stamp hp hr
  · exact .of_samples (s.bodyClear_samples i)
  · exact .of_set rfl fun hr => hr ▸ .decode hp hr
  · exact .of_samples rfl

/-- No body writes a tag (R54, R163). -/
theorem execIrqBody_mode {i : Nat} {s t : State} (h : exec (.irqBody i) s = .next t) (r : StorageRef) :
    (t.sample r).mode = (s.sample r).mode := by
  have hw := execIrqBody_sampleWrite h r
  generalize t.sample r = x at hw
  cases hw with
  | same | uncover _ | stamp _ _ => rfl
  | decode _ _ => cases (s.vec i).mode <;> rfl

/-- A body leaves of every slot all but `raw` and `ready` (R117 (2), (3), R121). -/
theorem execIrqBody_slot {i : Nat} {s t : State} (h : exec (.irqBody i) s = .next t) (j : Nat) :
    ∃ x r, t.slot j = { s.slot j with raw := x, ready := r } := by
  obtain ⟨-, hi, ho⟩ := execIrqBody_slotWrite h
  by_cases hj : j = i
  · subst hj
    generalize t.slot j = y at hi
    cases hi with
    | same | read _ _ | ready _ => exact ⟨_, _, rfl⟩
  · exact ⟨_, _, ho j hj⟩

/-! `BodyBindingInv` (R54, R117 (2), R173). -/

/-- The working copy of vector `v` is the binding and the storage of slot `x`, with tag `m`. -/
def Vec.WorksOn (v : Vec) (x : Slot) (m : Mode) : Prop :=
  v.rbind = ⟨x.rapRead, x.busAddress, x.busSpeed⟩ ∧ v.wbind = ⟨x.rapWrite, x.busAddress, x.busSpeed⟩ ∧
    v.sref = x.sampleRef ∧ v.mode = m

theorem State.bodyBindingInv_iff (s : State) : s.BodyBindingInv ↔
    ∀ i, (s.vec i).ph ≠ .idle → (s.vec i).WorksOn (s.slot i) (s.sample (s.slot i).sampleRef).mode := Iff.rfl

theorem State.bodyBindingInv_of_running {s : State} (h : s.running = none) : s.BodyBindingInv :=
  fun i hi => absurd (s.running_none_iff.mp h i) hi

/-- A step of a body keeps it for its own vector, which reads its copy at step 0 and then keeps it, and touches nothing
that another vector's copy was read from. -/
theorem State.BodyBindingInv.irqBody {s t : State} {i : Nat} (hs : s.BodyBindingInv)
    (h : exec (.irqBody i) s = .next t) : t.BodyBindingInv := by
  rw [State.bodyBindingInv_iff] at hs ⊢
  intro j hj
  obtain ⟨x, r, hx⟩ := execIrqBody_slot h j
  rw [hx, execIrqBody_mode h]
  show (t.vec j).WorksOn (s.slot j) (s.sample (s.slot j).sampleRef).mode
  by_cases hji : j = i
  · subst hji
    have hw := execIrqBody_vecWrite h
    generalize t.vec j = v at hw hj
    cases hw with
    | same => exact hs j hj
    | dispatch => exact ⟨rfl, rfl, rfl, rfl⟩
    | goesOn p hp => exact hs j hp
    | fails => exact absurd rfl hj
  · rw [execIrqBody_vec_other h hji] at hj ⊢
    exact hs j hj

/-- With no body running the foreground leaves every vector idle. -/
theorem exec_bodyBindingInv {i : Instr} {s t : State} (hr : s.running = none) (hs : s.BodyBindingInv)
    (h : exec i s = .next t) : t.BodyBindingInv := by
  by_cases hi : ∃ k, i = .irqBody k
  · obtain ⟨k, rfl⟩ := hi
    exact hs.irqBody h
  · have hv := exec_foreground_vecs h fun k e => hi ⟨k, e⟩
    exact State.bodyBindingInv_of_running (by rw [State.running, hv]; exact hr)

theorem Ran.bodyBindingInv {s t : State} (h : Ran s t) (hs : s.BodyBindingInv) : t.BodyBindingInv := by
  cases h with
  | body _ h => exact hs.irqBody h
  | goesOn hr _ h => exact exec_bodyBindingInv hr hs h
  | starts hr _ _ _ h => exact exec_bodyBindingInv (s := s.takePort) hr hs h
  | waits => exact hs

/-- The moves that write a tag or take a storage away find no body running; the others write no storage but for a power
cycle (log 9). -/
theorem Happened.bodyBindingInv {s t : State} {m : Move} (h : Happened s m t) (hs : s.BodyBindingInv) :
    t.BodyBindingInv := by
  cases h with
  | present w _ | setIE v _ | await _ | dispatch i | dispatchInFrame i | pulse p => exact hs
  | writeMode r md hr h => rw [(State.writeMode_next h).2]; exact State.bodyBindingInv_of_running hr
  | load r f _ h => rw [State.load_next h]; exact hs
  | discard x hr h =>
    obtain ⟨-, rfl | ⟨r, -, rfl⟩⟩ := State.discard_next h
    · exact hs
    · exact State.bodyBindingInv_of_running hr
  | otherFeed b v h => rw [(State.otherFeed_next h).2]; exact hs
  | sample b bytes =>
    exact State.deviceSample_kept (fun _ _ _ _ h => h) (fun _ _ _ h => h) (fun _ _ h => h) hs b bytes
  | powerCycle => exact State.resetWith_bodyBindingInv s.cfg

theorem step_bodyBindingInv {s t : State} (hs : s.BodyBindingInv) (h : step s = .next t) : t.BodyBindingInv := by
  obtain ⟨u, rfl, ⟨ms, q, hr⟩ | ⟨m, ms, -, -, hh⟩⟩ := step_cases h
  · exact hr.bodyBindingInv hs
  · exact hh.bodyBindingInv hs

/-! `OneMember` (R24, R25). -/

/-- Of a storage only the member its tag selects holds a value. -/
def Sample.OneMember (x : Sample) : Prop :=
  (x.mode = .absolute → x.rel = none) ∧ (x.mode = .relative → x.abs = none)

theorem State.oneMember_iff (s : State) : s.OneMember ↔ ∀ r, (s.sample r).OneMember := Iff.rfl

/-- A new tag takes the member it does not select away (log 41). -/
theorem Sample.retag_oneMember (x : Sample) (m : Mode) : (x.retag m).OneMember := by
  cases m
  · exact ⟨fun _ => rfl, nofun⟩
  · exact ⟨nofun, fun _ => rfl⟩

/-- Decoding by the storage's own tag writes the member it selects (R122). -/
theorem decodeInto_oneMember {x : Sample} (raw : Raw) (h : x.OneMember) : (decodeInto x.mode raw x).OneMember := by
  obtain ⟨ha, hr⟩ := h
  cases hm : x.mode with
  | absolute => exact ⟨fun _ => ha hm, fun e => (nomatch hm.symm.trans e)⟩
  | relative => exact ⟨fun e => (nomatch hm.symm.trans e), fun _ => hr hm⟩

theorem State.OneMember.setSample {s : State} (h : s.OneMember) (r : StorageRef) {x : Sample} (hx : x.OneMember) :
    (s.setSample r x).OneMember := by
  rw [State.oneMember_iff] at h ⊢
  intro r'
  by_cases hr : r' = r
  · rw [hr, State.sample_setSample_same]
    exact hx
  · rw [State.sample_setSample_other s x hr]
    exact h r'

/-- A body decodes by the tag in its working copy, which is its storage's (R173). -/
theorem State.OneMember.irqBody {s t : State} {i : Nat} (hs : s.OneMember) (hb : s.BodyBindingInv)
    (h : exec (.irqBody i) s = .next t) : t.OneMember := by
  rw [State.oneMember_iff] at hs ⊢
  intro r
  have hw := execIrqBody_sampleWrite h r
  generalize t.sample r = x at hw
  cases hw with
  | same | uncover _ | stamp _ _ => exact hs r
  | decode hp hr =>
    obtain ⟨-, -, href, hm⟩ := hb i (by simp [hp])
    rw [hm, ← href, ← hr]
    exact decodeInto_oneMember _ (hs r)

/-- The foreground writes of a storage the model's own bit `covered` only. -/
theorem exec_oneMember {i : Instr} {s t : State} (hb : s.BodyBindingInv) (hs : s.OneMember)
    (h : exec i s = .next t) : t.OneMember := by
  by_cases hi : ∃ k, i = .irqBody k
  · obtain ⟨k, rfl⟩ := hi
    exact hs.irqBody hb h
  · intro r
    have e := congrFun (exec_apart apart_samples h fun k e => hi ⟨k, e⟩) r
    simp only [Sample.mk.injEq] at e
    obtain ⟨hm, -, ha, hr, -⟩ := e
    rw [hm, ha, hr]
    exact hs r

theorem Ran.oneMember {s t : State} (h : Ran s t) (hb : s.BodyBindingInv) (hs : s.OneMember) : t.OneMember := by
  cases h with
  | body _ h => exact hs.irqBody hb h
  | goesOn _ _ h => exact exec_oneMember hb hs h
  | starts _ _ _ _ h => exact exec_oneMember (s := s.takePort) hb hs h
  | waits => exact hs

/-- A storage the host retags or takes away is left with one member at the most (log 36, log 41). -/
theorem Happened.oneMember {s t : State} {m : Move} (h : Happened s m t) (hs : s.OneMember) : t.OneMember := by
  cases h with
  | present w _ | setIE v _ | await _ | dispatch i | dispatchInFrame i | pulse p => exact hs
  | writeMode r md _ h => rw [(State.writeMode_next h).2]; exact hs.setSample r (Sample.retag_oneMember _ md)
  | load r f _ h => rw [State.load_next h]; exact hs
  | discard x _ h =>
    obtain ⟨-, rfl | ⟨r, -, rfl⟩⟩ := State.discard_next h
    · exact hs
    · exact hs.setSample r ⟨fun _ => rfl, fun _ => rfl⟩
  | otherFeed b v h => rw [(State.otherFeed_next h).2]; exact hs
  | sample b bytes =>
    exact State.deviceSample_kept (fun _ _ _ _ h => h) (fun _ _ _ h => h) (fun _ _ h => h) hs b bytes
  | powerCycle => exact State.resetWith_oneMember s.cfg

theorem step_oneMember {s t : State} (hb : s.BodyBindingInv) (hs : s.OneMember) (h : step s = .next t) :
    t.OneMember := by
  obtain ⟨u, rfl, ⟨ms, q, hr⟩ | ⟨m, ms, -, -, hh⟩⟩ := step_cases h
  · exact hr.oneMember hb hs
  · exact hh.oneMember hs

/-- Settles O56, by everything a step can do: a body's step reads or keeps its working copy and decodes by the tag in
it, and whatever else writes a slot or a tag finds no body running. -/
theorem stepKeepsBodyBinding : Obligations.StepKeepsBodyBinding := by
  unfold Obligations.StepKeepsBodyBinding
  exact fun s t hs h => ⟨step_bodyBindingInv hs h, fun ho => step_oneMember hs ho h⟩

end Sys2Proof.Machine
end

section
/-! PROOFS. The decoder and the encoder (R60, R62, R65, R66, R68): what each level's decoder answers, that decoding
undoes encoding (O1), words of the spec (O2), what encodes no operation (O3), and the command byte (O4). -/

namespace Sys2Proof.Machine

/-! The command port (R65, R69). -/

/-- `SLOT_BITS` is the least width that counts the slots: ceil(log2 N) (R5). -/
theorem slotBits_le_iff (n k : Nat) : slotBits n ≤ k ↔ n ≤ 2 ^ k := by
  unfold slotBits
  split
  · have := Nat.one_le_two_pow (n := k)
    omega
  · have := Nat.log2_lt (n := n - 1) (k := k) (by omega)
    omega

/-- A slot below `N` fits the port's field. -/
theorem slot_mod_slotBits {i n : Nat} (h : i < n) : i % 2 ^ slotBits n = i :=
  Nat.mod_eq_of_lt (h.trans_le ((slotBits_le_iff n _).mp le_rfl))

/-- Where `N` is a power of two the slot field holds slots below `N` only (R69). -/
theorem mod_slotBits_lt_of_two_pow {n k : Nat} (h : n = 2 ^ k) (slot : Nat) : slot % 2 ^ slotBits n < n := by
  have hk : slotBits n ≤ k := (slotBits_le_iff n k).mpr h.le
  calc slot % 2 ^ slotBits n < 2 ^ slotBits n := Nat.mod_lt _ (by positivity)
    _ ≤ 2 ^ k := Nat.pow_le_pow_right (by decide) hk
    _ = n := h.symm

/-- A binding the host can present fits the port's fields. -/
theorem portBinding_of_reaches {c : Config} {b : Binding} (h : c.reaches b = true) : portBinding c b = b := by
  simp only [Config.reaches, Bool.and_eq_true, decide_eq_true_eq] at h
  obtain ⟨⟨-, ha⟩, hs⟩ := h
  simp [portBinding, Nat.mod_eq_of_lt ha, Nat.mod_eq_of_lt hs]

/-- `op` 0x8 to 0xF selects no operation (R69). -/
theorem decodePort_reserved (c : Config) {f : PortFields} (h : 8 ≤ f.op.toNat) :
    decodePort c f = .cmdReserved (f.op.setWidth 3) := by
  unfold decodePort
  split
  case h_9 => rfl
  all_goals omega

/-- The encoder's `op` for a reserved value is one of 0x8 to 0xF and keeps its low three bits. -/
theorem reservedOp_encoding :
    ∀ low : BitVec 3, 8 ≤ (8 ||| low.setWidth 4 : BitVec 4).toNat ∧
      (8 ||| low.setWidth 4 : BitVec 4).setWidth 3 = low := by decide

/-! Command bytes and control codes (R62, R68, R70). -/

theorem decodeBusCommand_read {c : Config} {cmd : Byte} (b : Binding) (h : commandMarker cmd = c.readMarker) :
    decodeBusCommand c b cmd = .ok (.rapcmdRead b (commandReg cmd)) := if_pos h

theorem decodeBusCommand_write {c : Config} {cmd : Byte} (hc : c.valid = true) (b : Binding)
    (h : commandMarker cmd = c.writeMarker) : decodeBusCommand c b cmd = .ok (.rapcmdWrite b (commandReg cmd)) := by
  have hr : commandMarker cmd ≠ c.readMarker := h ▸ (Config.valid_markers_ne hc).symm
  rw [decodeBusCommand, if_neg hr, if_pos h]

theorem decodeBusCommand_noMarker {c : Config} {cmd : Byte} (b : Binding) (hr : commandMarker cmd ≠ c.readMarker)
    (hw : commandMarker cmd ≠ c.writeMarker) : decodeBusCommand c b cmd = .error .noMarker := by
  simp [decodeBusCommand, hr, hw]

theorem decode_readCommand {c : Config} (hc : c.valid = true) (b : Binding) (a : Reg) :
    decode c (.busCommand b (commandByte c.readMarker a)) = .ok (.rapcmdRead b a) := by
  have hm := Config.valid_readMarker hc
  rw [decode, decodeBusCommand_read b (commandMarker_commandByte _ a hm), commandReg_commandByte _ a hm]

theorem decode_writeCommand {c : Config} (hc : c.valid = true) (b : Binding) (a : Reg) :
    decode c (.busCommand b (commandByte c.writeMarker a)) = .ok (.rapcmdWrite b a) := by
  have hm := Config.valid_writeMarker hc
  rw [decode, decodeBusCommand_write hc b (commandMarker_commandByte _ a hm), commandReg_commandByte _ a hm]

theorem decode_doneCode (c : Config) (b : Binding) : decode c (.eraCode b 0) = .ok (.eraCtrlDone b) := by
  rw [decode, decodeEraCode, if_pos rfl]

theorem decode_readIncCode {c : Config} (hc : c.valid = true) (b : Binding) :
    decode c (.eraCode b c.eraCtrlReadInc) = .ok (.eraCtrlReadInc b) := by
  obtain ⟨hr, -, -⟩ := Config.valid_codes hc
  rw [decode, decodeEraCode, if_neg hr, if_pos rfl]

theorem decode_writeCode {c : Config} (hc : c.valid = true) (b : Binding) :
    decode c (.eraCode b c.eraCtrlWrite) = .ok (.eraCtrlWrite b) := by
  obtain ⟨-, hw, hne⟩ := Config.valid_codes hc
  rw [decode, decodeEraCode, if_neg hw, if_neg hne.symm, if_pos rfl]

/-! Decoding undoes encoding. -/

/-- At the port the well-formed operands fit their fields and the reserved values keep their low bits; at the bus the
markers and the codes tell the rows apart; the rest has no encoding. -/
theorem decode_encode {c : Config} {i : Instr} {w : Fetch} (hc : c.valid = true) (hw : i.wf c = true)
    (he : encode c i = some w) : decode c w = .ok i := by
  cases i with
  | irqBody | decodeAbs | decodeRel | feedDisable | feedEnable | clearFlags | eraPoll => cases he
  | rapcmdRead b a => cases he; exact decode_readCommand hc b a
  | rapcmdWrite b a => cases he; exact decode_writeCommand hc b a
  | eraCtrlReadInc b => cases he; exact decode_readIncCode hc b
  | eraCtrlWrite b => cases he; exact decode_writeCode hc b
  | eraCtrlDone b => cases he; exact decode_doneCode c b
  | cmdReserved low =>
    cases he
    obtain ⟨hop, hlow⟩ := reservedOp_encoding low
    rw [decode, decodePort_reserved c hop, hlow]
  | unregister k | consumeReady k | clearReady k =>
    cases he
    have hk : k < c.nSlots := by simpa [Instr.wf] using hw
    simp [decode, decodePort, slot_mod_slotBits hk]
  | register pin b feed1 storage =>
    cases he
    simp only [Instr.wf, Bool.and_eq_true, decide_eq_true_eq] at hw
    obtain ⟨hb, hp⟩ := hw
    simp [decode, decodePort, portBinding_of_reaches hb, Nat.mod_eq_of_lt hp]
  | rapRead b | rapWrite b | eraRead b | eraWrite b =>
    cases he
    have hb : c.reaches b = true := by simp only [Instr.wf, Bool.and_eq_true] at hw; tauto
    simp [decode, decodePort, portBinding_of_reaches hb]

/-- Settles O1, constructor by constructor. -/
theorem decodeEncodeRoundTrip : Obligations.DecodeEncodeRoundTrip := by
  unfold Obligations.DecodeEncodeRoundTrip
  exact fun _ _ _ => decode_encode

/-- Settles O2, by running the decoder on the seven words. -/
theorem specWordsDecode : Obligations.SpecWordsDecode := by
  unfold Obligations.SpecWordsDecode
  decide

/-! Refused operands (R45, R69). -/

/-- An operation whose operands are refused is refused so, whatever is in progress. -/
theorem State.accept_of_operandRefusal {s : State} {i : Instr} {r : Refusal}
    (body : Phase → Host.Outcome State Fault Refusal) (h : operandRefusal s.cfg i = some r) :
    s.accept i body = .refused r := by
  simp [State.accept, h]

theorem slotRefusal_of_le {c : Config} {i : Nat} (h : c.nSlots ≤ i) : slotRefusal c i = some .slotOutOfRange :=
  if_neg h.not_gt

/-- A read of no byte, of more than 32, or past register 31 is outside the window, whatever `RAP_MAX_COUNT` is. -/
theorem operandRefusal_rapRead_outside (c : Config) (b : Binding) {reg : Reg} {count : BitVec 6}
    (h : count.toNat = 0 ∨ 32 < count.toNat ∨ 32 < reg.toNat + count.toNat) :
    operandRefusal c (.rapRead b reg count) = some .readOutsideWindow :=
  if_neg (by omega)

/-- Settles O3, clause by clause: the `op` values decode to the reserved operation, and each operation meets the refusal
of its operands. -/
theorem reservedEncodingsAreRefused : Obligations.ReservedEncodingsAreRefused := by
  unfold Obligations.ReservedEncodingsAreRefused
  refine fun s => ⟨fun f hf => ?_, fun low => ?_, fun i hi => ?_, fun f k hk => ?_, fun b reg count hn => ?_⟩
  · rw [decode, decodePort_reserved s.cfg hf]
  · rfl
  · have hr := slotRefusal_of_le hi
    exact ⟨State.accept_of_operandRefusal _ hr, State.accept_of_operandRefusal _ hr,
      State.accept_of_operandRefusal _ hr⟩
  · exact mod_slotBits_lt_of_two_pow hk f.slot
  · exact State.accept_of_operandRefusal _ (operandRefusal_rapRead_outside s.cfg b hn)

/-- Settles O4, by the marker. -/
theorem commandByteDecodesByMarker : Obligations.CommandByteDecodesByMarker := by
  unfold Obligations.CommandByteDecodesByMarker
  exact fun c b cmd hc => ⟨decodeBusCommand_read b, decodeBusCommand_write hc b, decodeBusCommand_noMarker b⟩

end Sys2Proof.Machine
end

section
/-! PROOFS. Operations that are others by another name: the command bytes as instructions (O16) and the
pseudo-operations of one write frame (O19). -/

namespace Sys2Proof.Machine

/-- Settles O16: a command byte that reaches its sensor is taken by its marker. -/
theorem commandBytesSelectTheRegister : Obligations.CommandBytesSelectTheRegister := by
  unfold Obligations.CommandBytesSelectTheRegister
  intro s b a hc hb
  simp only [exec, execRapcmdRead, execRapcmdWrite, State.onBus_reaches hb, State.sensorCommand_read s b a hc,
    State.sensorCommand_write s b a hc, and_self]

/-- With nothing in progress, two operations that meet the same refusals are admitted alike. -/
theorem State.accept_congr {s : State} {i j : Instr} {body : Phase → Host.Outcome State Fault Refusal}
    (hn : s.fg.op = none) (ho : operandRefusal s.cfg i = operandRefusal s.cfg j)
    (hm : s.modeRefusal i = s.modeRefusal j) : s.accept i body = s.accept j body := by
  simp only [State.accept, ho, State.phaseOf_idle _ hn, hm]

/-- A write of the feed register is refused for the data mode of its byte (R178). -/
theorem State.modeRefusal_rapWrite_feed1 (s : State) (b : Binding) (v : Byte) :
    s.modeRefusal (.rapWrite b s.cfg.regFeed1 v) = s.feedRefusal b v := if_pos rfl

/-- No other register's write is (R178). -/
theorem State.modeRefusal_rapWrite_of_ne {s : State} {reg : Reg} (b : Binding) (v : Byte) (h : reg ≠ s.cfg.regFeed1) :
    s.modeRefusal (.rapWrite b reg v) = none := if_neg h

/-- Settles O19: each is the same write frame under the same admission; the data mode is asked of the byte sent, and the
status register is not the feed register (R6). -/
theorem pseudoOpsAreTheirExpansions : Obligations.PseudoOpsAreTheirExpansions := by
  unfold Obligations.PseudoOpsAreTheirExpansions
  intro s b f hc hn
  obtain ⟨hsf, -⟩ := Config.valid_regs hc
  exact ⟨State.accept_congr hn rfl (s.modeRefusal_rapWrite_feed1 b _).symm,
    State.accept_congr hn rfl (s.modeRefusal_rapWrite_feed1 b _).symm,
    State.accept_congr hn rfl (State.modeRefusal_rapWrite_of_ne b _ hsf).symm⟩

end Sys2Proof.Machine
end

section
/-! PROOFS. Basic register access: RAP_READ returns its frame (O10), RAP_WRITE sends its byte (O13), a failed frame of
either is reported (O14), and on plain storage a register reads as it was written (O15). -/

namespace Sys2Proof.Machine

open Sys2Proof.Claims

theorem exec_rapWrite {s : State} {b : Binding} {reg : Reg} {v : Byte} (h : Idle s (.rapWrite b reg v)) :
    exec (.rapWrite b reg v) s = .next (s.writeThen b reg v fun t => t.ret { st := .ok }) :=
  State.accept_idle (Laws.Admission.rapWrite b reg v) h nofun _

/-! What one frame leaves alone (R18). -/

theorem State.memRead_leaves (s : State) (b : Binding) (reg : Reg) (n : Nat) :
    TableSame s (s.memRead b reg n).2 ∧ OutsideSame s (s.memRead b reg n).2 ∧
      OtherSensorsSame s (s.memRead b reg n).2 b :=
  ⟨by simp [TableSame], by simp [OutsideSame], fun _ => s.memRead_sensor_other reg n⟩

theorem State.memWrite_leaves (s : State) (b : Binding) (reg : Reg) (v : Byte) :
    TableSame s (s.memWrite b reg v).2 ∧ OutsideSame s (s.memWrite b reg v).2 ∧
      OtherSensorsSame s (s.memWrite b reg v).2 b :=
  ⟨by simp [TableSame], by simp [OutsideSame], fun _ => s.memWrite_sensor_other reg v⟩

/-- A move of the sequencer after the frame touches none of it either. -/
theorem State.SequencerMoved.leaves {s u t : State} {b : Binding} (hm : u.SequencerMoved t)
    (h : TableSame s u ∧ OutsideSame s u ∧ OtherSensorsSame s u b) :
    TableSame s t ∧ OutsideSame s t ∧ OtherSensorsSame s t b := by
  obtain ⟨x, r, rfl⟩ := hm; exact h

/-! The read frame. -/

/-- A read frame that finds no access in progress, or passes the control register by, changes no byte, no access and no
target (R48). -/
theorem State.memRead_undisturbed {s : State} {b : Binding} {reg : Reg} {n : Nat} (hv : s.cfg.valid = true)
    (h : (s.sensor b).pend = 0 ∨ ∀ k, k < n → reg + BitVec.ofNat 5 k ≠ s.cfg.regEraCtrl) :
    (∀ a, (s.memRead b reg n).2.byteAt a = s.byteAt a) ∧
      ((s.memRead b reg n).2.sensor b).pend = (s.sensor b).pend ∧
      ((s.memRead b reg n).2.sensor b).target = (s.sensor b).target := by
  obtain hp | hr := h
  · obtain ⟨hm, hp', ht⟩ := s.memRead_noAccess b reg n hp
    exact ⟨fun a => congrArg (Sparse.get? · a) hm, hp'.trans hp.symm, ht⟩
  · obtain ⟨hm, ht, hp, -, -⟩ := s.memRead_plain b reg n hv hr
    exact ⟨fun a => congrArg (Sparse.get? · a) hm, hp, ht⟩

/-- A failed read frame changes no byte (log 20). -/
theorem State.memRead_failed_byteAt {s : State} (b : Binding) (reg : Reg) (n : Nat) (h : s.answer.fail = true) (a : Nat) :
    (s.memRead b reg n).2.byteAt a = s.byteAt a := by
  simp only [State.memRead, h, if_true]
  split <;> simp

/-- The bytes of a read frame of a freely answering device are the environment's (R83). -/
theorem State.memRead_oracle {s : State} {b : Binding} (reg : Reg) (n : Nat) (hf : s.answer.fail = false)
    (hd : deviceModel s.cfg b = .oracle) : (s.memRead b reg n).1 = some (s.freeBytes n) := by
  rw [(s.memRead_done b reg n hf).1, deviceSupply_oracle b n 0 _ (by simpa using hd)]
  simp [State.freeBytes]

/-- Settles O10: the answer is the frame's bytes, and what the frame changes is what a completed access stores. -/
theorem rapReadReturnsItsFrame : Obligations.RapReadReturnsItsFrame := by
  unfold Obligations.RapReadReturnsItsFrame
  intro s b reg count hi hf
  have he := exec_rapRead hi
  obtain ⟨⟨hv, -, -⟩, -⟩ := hi
  obtain ⟨hb, htr⟩ := s.memRead_done b reg count.toNat hf
  rw [State.readThen_of_bytes _ hb] at he
  refine ⟨_, _, he, deviceSupply_length b _ _ _, ⟨rfl, rfl⟩, htr,
    fun hd => Option.some.inj (hb.symm.trans (State.memRead_oracle reg _ hf hd)), ?_⟩
  simp only [State.ret_byteAt, State.ret_sensor]
  exact ⟨State.memRead_undisturbed hv, fun a h1 h2 h3 h4 => s.memRead_byteAt_other b reg _ a h1 h3 h2 h4,
    s.memRead_feed b b reg _, s.memRead_line b reg _, (State.sequencerMoved_ret _ _).leaves (s.memRead_leaves b reg _)⟩

/-! The write frame. -/

theorem State.record_window (s : State) (e : FrameEvent) (b : Binding) (r : Reg) :
    (s.record e).window b r = s.window b r := rfl

/-- The two address bytes, high byte first (R43). -/
theorem addrOf_toNat (hi lo : Byte) : (addrOf hi lo).toNat = 256 * hi.toNat + lo.toNat := by
  rw [addrOf, BitVec.toNat_append, Nat.shiftLeft_eq, Nat.mul_comm, ← Nat.two_pow_add_eq_or_of_lt lo.isLt]

/-- A write frame that is done has the effects of R48 on the byte and on the sensor, and no other. -/
theorem State.sensorWrite_writeFrame (s : State) (b : Binding) (reg : Reg) (v : Byte) (h : s.cfg.valid = true) :
    WriteFrame s ((s.sensorWrite b reg v).record (.write b reg v)) b reg v := by
  obtain ⟨hi, lo, hs⟩ := s.sensorWrite_sensor b reg v h
  have ht := s.sensorWrite_target b reg v h
  simp only [WriteFrame, OtherSensorsSame, State.record_byteAt, State.record_window, State.record_sensor]
  refine ⟨by simp, s.sensorWrite_window b reg v h, fun a => s.sensorWrite_byteAt_other b reg v a h,
    congrArg Sensor.feed hs, congrArg Sensor.line hs, congrArg Sensor.pend hs,
    fun hh hl => ?_, fun hr hi' lo' hh hl => ?_, fun _ => s.sensorWrite_sensor_other reg v⟩
  · rw [ht, if_neg (by simp [hh, hl])]
  · rw [ht, if_pos hr, hh, hl]
    exact addrOf_toNat hi' lo'

/-- A move of the sequencer after the frame takes nothing of it back. -/
theorem State.SequencerMoved.writeFrame {s u t : State} {b : Binding} {reg : Reg} {v : Byte} (hm : u.SequencerMoved t)
    (h : WriteFrame s u b reg v) : WriteFrame s t b reg v := by
  obtain ⟨x, r, rfl⟩ := hm; exact h

/-- Settles O13: the step is one write frame and the return. -/
theorem rapWriteSendsItsByte : Obligations.RapWriteSendsItsByte := by
  unfold Obligations.RapWriteSendsItsByte
  intro s b reg v hi hf
  have he := exec_rapWrite hi
  obtain ⟨⟨hv, -, -⟩, -⟩ := hi
  rw [State.writeThen_done s b reg v _ hf] at he
  have hl := s.memWrite_leaves b reg v
  rw [s.memWrite_done b reg v hf] at hl
  have hm := State.sequencerMoved_ret ((s.sensorWrite b reg v).record (.write b reg v)) { st := .ok }
  obtain ⟨htab, hout, -⟩ := hm.leaves hl
  exact ⟨_, he, ⟨rfl, rfl⟩, hm.writeFrame (s.sensorWrite_writeFrame b reg v hv), htab, hout⟩

/-! Failed frames. -/

/-- After a write frame, reported done or failed, the register holds the byte or what it held (U4). -/
theorem State.memWrite_window (s : State) (b : Binding) (reg : Reg) (v : Byte) (hv : s.cfg.valid = true) :
    (s.memWrite b reg v).2.window b reg = some v ∨ (s.memWrite b reg v).2.window b reg = s.window b reg := by
  obtain ⟨e, he | he⟩ := s.memWrite_cases b reg v
  · exact .inr (by rw [he]; rfl)
  · exact .inl (by rw [he, State.record_window]; exact s.sensorWrite_window b reg v hv)

/-- Settles O14: either operation returns the error after its one frame, which is recorded as failed. -/
theorem failedFrameIsReported : Obligations.FailedFrameIsReported := by
  unfold Obligations.FailedFrameIsReported
  refine ⟨fun s b reg count hi hf => ?_, fun s b reg v hi hf => ?_⟩
  · have he := exec_rapRead hi
    obtain ⟨hb, htr⟩ := s.memRead_failed b reg count.toNat hf
    rw [State.readThen, hb] at he
    exact ⟨_, he, ⟨rfl, rfl⟩, htr, State.memRead_failed_byteAt b reg _ hf, s.memRead_leaves b reg _⟩
  · have he := exec_rapWrite hi
    obtain ⟨⟨hv, -, -⟩, -⟩ := hi
    rw [State.writeThen_failed s b reg v _ hf] at he
    exact ⟨_, he, ⟨rfl, rfl⟩, (s.memWrite_failed b reg v hf).2, s.memWrite_window b reg v hv,
      fun a => s.memWrite_byteAt_other b reg v hv, s.memWrite_leaves b reg v⟩

/-! Write, then read. -/

/-- Once an operation has returned, a RAP_READ that could have started instead of it may start (R21). -/
theorem idle_rapRead_of_returned {s t : State} {b : Binding} {reg : Reg} {count : BitVec 6}
    (h : Idle s (.rapRead b reg count)) (hc : t.cfg = s.cfg) {r : Result} (hr : Returned t r) :
    Idle t.tick (.rapRead b reg count) := by
  obtain ⟨⟨hv, hw, -⟩, -⟩ := h
  obtain ⟨-, hfg⟩ := hr
  exact ⟨⟨hc ▸ hv, (congrArg (Instr.wf · (.rapRead b reg count)) hc).trans hw, rfl⟩, congrArg Fg.op hfg⟩

/-- The free values of the next step do not depend on what this one did. -/
theorem State.tick_answer_of_outsideSame {s t : State} (h : OutsideSame s t) : t.tick.answer = s.tick.answer := by
  obtain ⟨-, -, ha, hk, -⟩ := h
  simp [State.answer, ha, hk]

/-- Settles O15: the register holds the byte after the write, and the read gives what plain storage holds. -/
theorem plainStorageRoundTrip : Obligations.PlainStorageRoundTrip := by
  unfold Obligations.PlainStorageRoundTrip
  intro s b reg v hw hr hd hf hf'
  obtain ⟨t, het, hret, ⟨-, hwin, -⟩, -, hout⟩ := rapWriteSendsItsByte s b reg v hw hf
  have hft : t.tick.answer.fail = false := by rw [State.tick_answer_of_outsideSame hout, hf']
  obtain ⟨hc, -⟩ := hout
  have hi := idle_rapRead_of_returned hr hc hret
  have her := exec_rapRead hi
  obtain ⟨⟨hv, -, -⟩, -⟩ := hi
  have hreg : t.tick.window b (reg + BitVec.ofNat 5 0) = some v := by rw [BitVec.add_zero]; exact hwin
  obtain ⟨-, hb⟩ := State.memRead_plainStorage reg 1 hv (by rwa [State.tick_cfg, hc]) hft
  rw [List.range_one, List.map_singleton, hreg, Option.getD_some] at hb
  rw [show BitVec.toNat (1 : BitVec 6) = 1 from rfl, State.readThen_of_bytes _ hb] at her
  exact ⟨t, _, het, her, rfl, rfl⟩

end Sys2Proof.Machine
end

section
/-! PROOFS. Extended register access: the pseudo-operations of one frame (O20), what a step of an extended access is
(O26), the poll (O21, O22), and ERA_READ and ERA_WRITE phase by phase (O23, O24). -/

namespace Sys2Proof.Machine

open Sys2Proof.Claims

/-! The pseudo-operations of one write frame (R90, R91, R92). -/

/-- RAP_WRITE of a register, with the byte sent being none that R178 refuses. -/
theorem idle_rapWrite {s : State} {b : Binding} {reg : Reg} {v : Byte} (hv : s.cfg.valid = true)
    (hb : s.cfg.reaches b = true) (hn : s.fg.op = none) (hm : reg = s.cfg.regFeed1 → s.modeConflict b v = false) :
    Idle s (.rapWrite b reg v) := by
  refine ⟨⟨hv, hb, ?_⟩, hn⟩
  by_cases hr : reg = s.cfg.regFeed1
  · rw [hr, State.modeRefusal_rapWrite_feed1]
    exact State.feedRefusal_none.mpr (hm hr)
  · exact State.modeRefusal_rapWrite_of_ne b v hr

/-- Settles O20: each is the RAP_WRITE it expands to (O19), which is one write frame (O13). -/
theorem feedAndFlagFramesTakeEffect : Obligations.FeedAndFlagFramesTakeEffect := by
  unfold Obligations.FeedAndFlagFramesTakeEffect
  intro s b f hv hb hn hm hf
  obtain ⟨hd, he, hc⟩ := pseudoOpsAreTheirExpansions s b f hv hn
  obtain ⟨hkd, hke⟩ := s.modeConflict_keeps b f hv
  obtain ⟨hoff, hon⟩ := Config.valid_feed hv f
  obtain ⟨hsf, -⟩ := Config.valid_regs hv
  rw [hd, he, hc]
  refine ⟨?_, ?_, ?_⟩
  · obtain ⟨t, ht, hr, hw, hl⟩ := rapWriteSendsItsByte s b _ _ (idle_rapWrite hv hb hn fun _ => hkd.trans hm) hf
    obtain ⟨-, -, -, hfeed, -⟩ := id hw
    exact ⟨t, ht, hr, hw, by rw [hfeed, if_pos rfl]; exact hoff, hl⟩
  · obtain ⟨t, ht, hr, hw, hl⟩ := rapWriteSendsItsByte s b _ _ (idle_rapWrite hv hb hn fun _ => hke.trans hm) hf
    obtain ⟨-, -, -, hfeed, -⟩ := id hw
    exact ⟨t, ht, hr, hw, by rw [hfeed, if_pos rfl]; exact hon, hl⟩
  · obtain ⟨t, ht, hr, hw, hl⟩ :=
      rapWriteSendsItsByte s b s.cfg.regStatus s.cfg.statusClear (idle_rapWrite hv hb hn fun e => absurd e hsf) hf
    obtain ⟨-, -, -, -, hline, -⟩ := id hw
    exact ⟨t, ht, hr, hw, by rw [hline, if_pos ⟨rfl, rfl⟩], hl⟩


/-! What a step of an extended access is (R93 to R96, R98). -/

/-- What a step of an extended access at the sensor of `b` is: the FEED_DISABLE it starts with, or, with the feed off, one
write frame to another register or one read frame of a byte, the sequencer perhaps cleared before it. Only the sequencer
moves after the frame, and after a failed one the operation returns the error. -/
inductive EraFrame (b : Binding) (s : State) : State → Prop where
  | disables (f : Byte) {k : State → State} : (∀ u, State.SequencerMoved u (k u)) →
      EraFrame b s (s.writeThen b s.cfg.regFeed1 (feedOffByte s.cfg f) k)
  | writes {reg : Reg} (v : Byte) {k : State → State} : (s.sensor b).feed = false → reg ≠ s.cfg.regFeed1 →
      (∀ u, State.SequencerMoved u (k u)) → EraFrame b s (s.writeThen b reg v k)
  | reads (x : Fg) (reg : Reg) {k : List Byte → State → State} : (s.sensor b).feed = false →
      (∀ bytes u, State.SequencerMoved u (k bytes u)) → EraFrame b s ((s.setFg x).readThen b reg 1 k)

theorem State.sequencerMoved_eraNextByte (s : State) (i : Instr) (n : Nat) : s.SequencerMoved (s.eraNextByte i n) := by
  unfold State.eraNextByte
  split
  · exact s.sequencerMoved_goes _ _ _
  · exact s.sequencerMoved_ret _

/-- After the last address byte ERA_READ of no byte returns (R95). -/
theorem State.sequencerMoved_eraFirstByte (s : State) (i : Instr) (n : Byte) : s.SequencerMoved
    (if n.toNat = 0 then s.ret { st := .ok, rbytes := some [] } else s.goto i .ctrl) := by
  split
  · exact s.sequencerMoved_ret _
  · exact s.sequencerMoved_goto _ _

/-- A guarded write frame to a register that is not the feed register. -/
theorem EraFrame.of_write {b : Binding} {s t : State} {reg : Reg} {v : Byte} {k : State → State}
    (hr : reg ≠ s.cfg.regFeed1) (hk : ∀ u, State.SequencerMoved u (k u))
    (h : s.eraGuard b (s.writeThen b reg v k) = .next t) : EraFrame b s t := by
  obtain ⟨hf, rfl⟩ := State.eraGuard_next h
  exact .writes v hf hr hk

/-- A guarded read frame of one byte. -/
theorem EraFrame.of_read {b : Binding} {s t : State} (x : Fg) {reg : Reg} {k : List Byte → State → State}
    (hk : ∀ bytes u, State.SequencerMoved u (k bytes u))
    (h : s.eraGuard b ((s.setFg x).readThen b reg 1 k) = .next t) : EraFrame b s t := by
  obtain ⟨hf, rfl⟩ := State.eraGuard_next h
  exact .reads x reg hf hk

/-- A guarded poll, whatever stands in the sequencer before it. -/
theorem EraFrame.of_poll {b : Binding} {s t : State} (x : Fg) {i : Instr} {k : State → State}
    (hk : ∀ u, State.SequencerMoved u (k u)) (h : s.eraGuard b ((s.setFg x).pollThen i b k) = .next t) :
    EraFrame b s t := by
  refine .of_read x (fun bytes u => ?_) h
  split
  · exact hk u
  · split
    · exact u.sequencerMoved_ret _
    · exact u.sequencerMoved_goes _ _ _

theorem eraReadPhase_frame {b : Binding} {feed1 : Byte} {addr : EraAddr} {n : Byte} {s t : State} {p : Phase}
    (hv : s.cfg.valid = true) (h : eraReadPhase b feed1 addr n s p = .next t) : EraFrame b s t := by
  obtain ⟨hsf, -, -, -, -, -, hfh, hfl, hfc, -⟩ := Config.valid_regs hv
  cases p with
  | idle | feedOff => injection h with h; subst h; exact .disables feed1 fun u => u.sequencerMoved_goes _ _ _
  | valueW | line k => cases h
  | addrHi => exact .of_write hfh.symm (fun u => u.sequencerMoved_goto _ _) h
  | addrLo => exact .of_write hfl.symm (fun u => u.sequencerMoved_eraFirstByte _ n) h
  | ctrl => exact .of_write hfc.symm (fun u => u.sequencerMoved_goes _ _ _) h
  | poll => exact .of_poll s.fg (fun u => u.sequencerMoved_goto _ _) h
  | value => exact .of_read s.fg (fun _ u => u.sequencerMoved_goes _ _ _) h
  | clear => exact .of_write hsf (fun u => u.sequencerMoved_eraNextByte _ _) h

theorem eraWritePhase_frame {b : Binding} {feed1 : Byte} {addr : EraAddr} {data : Byte} {s t : State} {p : Phase}
    (hv : s.cfg.valid = true) (h : eraWritePhase b feed1 addr data s p = .next t) : EraFrame b s t := by
  obtain ⟨hsf, -, -, -, -, hfv, hfh, hfl, hfc, -⟩ := Config.valid_regs hv
  cases p with
  | idle | feedOff => injection h with h; subst h; exact .disables feed1 fun u => u.sequencerMoved_goes _ _ _
  | value | line k => cases h
  | valueW => exact .of_write hfv.symm (fun u => u.sequencerMoved_goto _ _) h
  | addrHi => exact .of_write hfh.symm (fun u => u.sequencerMoved_goto _ _) h
  | addrLo => exact .of_write hfl.symm (fun u => u.sequencerMoved_goto _ _) h
  | ctrl => exact .of_write hfc.symm (fun u => u.sequencerMoved_goes _ _ _) h
  | poll => exact .of_poll s.fg (fun u => u.sequencerMoved_goto _ _) h
  | clear => exact .of_write hsf (fun u => u.sequencerMoved_ret _) h

theorem execEraPoll_frame {b : Binding} {s t : State} (h : exec (.eraPoll b) s = .next t) : EraFrame b s t := by
  obtain ⟨-, p, -, -, h⟩ := State.accept_next h
  cases p with
  | idle => exact .of_poll Fg.idle (fun u => u.sequencerMoved_ret _) h
  | poll => exact .of_poll s.fg (fun u => u.sequencerMoved_ret _) h
  | feedOff | valueW | addrHi | addrLo | ctrl | value | clear | line k => cases h

/-- Every step of ERA_READ, ERA_WRITE and ERA_POLL is an `EraFrame` at its own sensor. -/
theorem exec_eraFrame {i : Instr} {b : Binding} {s t : State} (hv : s.cfg.valid = true)
    (hi : eraBinding i = some b ∨ i = .eraPoll b) (h : exec i s = .next t) : EraFrame b s t := by
  cases i with
  | eraRead b' feed1 addr n =>
    obtain rfl : b' = b := by simpa [eraBinding] using hi
    obtain ⟨-, p, -, -, h⟩ := State.accept_next h
    exact eraReadPhase_frame hv h
  | eraWrite b' feed1 addr v =>
    obtain rfl : b' = b := by simpa [eraBinding] using hi
    obtain ⟨-, p, -, -, h⟩ := State.accept_next h
    exact eraWritePhase_frame hv h
  | eraPoll b' =>
    obtain rfl : b' = b := by simpa [eraBinding] using hi
    exact execEraPoll_frame h
  | _ => simp [eraBinding] at hi

/-! Failed frames (R98). -/

theorem State.writeThen_failed_returns {s : State} (b : Binding) (reg : Reg) (v : Byte) (k : State → State)
    (hf : s.answer.fail = true) :
    Returned (s.writeThen b reg v k) { st := .busTransactionFailed } ∧
      (s.writeThen b reg v k).trace = .writeFailed b reg v :: s.trace := by
  rw [s.writeThen_failed b reg v k hf]
  exact ⟨⟨rfl, rfl⟩, (s.memWrite_failed b reg v hf).2⟩

theorem State.readThen_failed_returns {s : State} (b : Binding) (reg : Reg) (n : Nat) (k : List Byte → State → State)
    (hf : s.answer.fail = true) :
    Returned (s.readThen b reg n k) { st := .busTransactionFailed } ∧
      (s.readThen b reg n k).trace = .readFailed b reg n :: s.trace := by
  obtain ⟨hb, htr⟩ := s.memRead_failed b reg n hf
  rw [State.readThen, hb]
  exact ⟨⟨rfl, rfl⟩, htr⟩

/-- Settles O26: a step of an extended access is one frame, and a failed one returns the error. -/
theorem failureStopsAnExtendedAccess : Obligations.FailureStopsAnExtendedAccess := by
  unfold Obligations.FailureStopsAnExtendedAccess
  intro s t i b ⟨⟨hv, _⟩, _⟩ hi hf h
  have hs := exec_eraFrame hv hi h
  cases hs with
  | disables f _ =>
    obtain ⟨hr, htr⟩ := State.writeThen_failed_returns b _ (feedOffByte s.cfg f) _ hf
    exact ⟨hr, _, htr, .inl ⟨_, _, rfl⟩⟩
  | writes v _ _ _ =>
    obtain ⟨hr, htr⟩ := State.writeThen_failed_returns b _ v _ hf
    exact ⟨hr, _, htr, .inl ⟨_, _, rfl⟩⟩
  | reads x reg _ _ =>
    obtain ⟨hr, htr⟩ := State.readThen_failed_returns (s := s.setFg x) b reg 1 _ hf
    exact ⟨hr, _, htr, .inr ⟨_, rfl⟩⟩

/-! The poll (R94, R99). -/

theorem State.memRead_trace_of_bytes {s : State} {b : Binding} {reg : Reg} {n : Nat} {bytes : List Byte}
    (h : (s.memRead b reg n).1 = some bytes) : (s.memRead b reg n).2.trace = .read b reg n bytes :: s.trace := by
  cases hf : s.answer.fail with
  | true => rw [(s.memRead_failed b reg n hf).1] at h; cases h
  | false =>
    obtain ⟨hb, htr⟩ := s.memRead_done b reg n hf
    rw [htr, Option.some.inj (hb.symm.trans h)]

/-- A poll that is done reads one byte of the control register and tests it: zero goes on, the cap's last poll returns the
error, any other goes on polling. -/
theorem State.pollThen_tests {s : State} (i : Instr) (b : Binding) {k : State → State}
    (hk : ∀ u, State.SequencerMoved u (k u)) (hf : s.answer.fail = false) :
    ∃ c, (s.memRead b s.cfg.regEraCtrl 1).1 = some [c] ∧
      (s.pollThen i b k).trace = .read b s.cfg.regEraCtrl 1 [c] :: s.trace ∧
      (c = 0 → s.pollThen i b k = k (s.memRead b s.cfg.regEraCtrl 1).2) ∧
      (c ≠ 0 → s.cfg.eraPollCap = some (s.fg.polls + 1) →
        Returned (s.pollThen i b k) { st := .unresponsiveDevice }) ∧
      (c ≠ 0 → s.cfg.eraPollCap ≠ some (s.fg.polls + 1) →
        GoesOn s (s.pollThen i b k) i .poll ∧
        (s.pollThen i b k).fg = { s.fg with op := some i, ph := .poll, polls := s.fg.polls + 1 }) := by
  obtain ⟨hf', -⟩ | ⟨c, -, hb, hc⟩ := s.pollThen_cases i b k
  · simp [hf] at hf'
  have htr : (s.pollThen i b k).trace = .read b s.cfg.regEraCtrl 1 [c] :: s.trace := by
    obtain ⟨x, r, e⟩ := s.sequencerMoved_pollThen i b hk
    rw [e]; exact State.memRead_trace_of_bytes hb
  refine ⟨c, hb, htr, ?_⟩
  obtain ⟨h0, e⟩ | ⟨h0, hcap, e⟩ | ⟨h0, hcap, e⟩ := hc
  · exact ⟨fun _ => e, fun h => absurd h0 h, fun h => absurd h0 h⟩
  · exact ⟨fun h => absurd h h0, fun _ _ => e ▸ ⟨rfl, rfl⟩, fun _ h => absurd hcap h⟩
  · rw [e]
    exact ⟨fun h => absurd h h0, fun _ h => absurd h hcap,
      fun _ _ => ⟨⟨rfl, rfl, s.memRead_result b _ 1⟩, rfl⟩⟩

/-- An operation in progress runs its body from the phase it stands in. -/
theorem State.accept_standsAt {s : State} {i : Instr} {p : Phase} (ha : Laws.Admission.Statement i) (h : StandsAt s i p)
    (hr : ∀ low, i ≠ .cmdReserved low) (body : Phase → Host.Outcome State Fault Refusal) :
    s.accept i body = body p := by
  obtain ⟨⟨-, hw, hm⟩, ho, rfl⟩ := h
  exact s.accept_eq i _ body ((ha s.cfg).mpr ⟨hw, hr⟩) (State.phaseOf_self ho) hm

theorem exec_eraRead_at {s : State} {b : Binding} {f : Byte} {addr : EraAddr} {n : Byte} {p : Phase}
    (h : StandsAt s (.eraRead b f addr n) p) : exec (.eraRead b f addr n) s = eraReadPhase b f addr n s p :=
  State.accept_standsAt (Laws.Admission.eraRead b f addr n) h nofun _

theorem exec_eraWrite_at {s : State} {b : Binding} {f : Byte} {addr : EraAddr} {v : Byte} {p : Phase}
    (h : StandsAt s (.eraWrite b f addr v) p) : exec (.eraWrite b f addr v) s = eraWritePhase b f addr v s p :=
  State.accept_standsAt (Laws.Admission.eraWrite b f addr v) h nofun _

/-- In POLL each of the three operations polls, and then moves the sequencer. -/
theorem exec_poll {s : State} {i : Instr} {b : Binding} (hi : eraBinding i = some b ∨ i = .eraPoll b)
    (h : StandsAt s i .poll) :
    ∃ k : State → State, (∀ u, State.SequencerMoved u (k u)) ∧ exec i s = s.eraGuard b (s.pollThen i b k) := by
  cases i with
  | eraRead b' f addr n =>
    obtain rfl : b' = b := by simpa [eraBinding] using hi
    exact ⟨_, fun u => u.sequencerMoved_goto _ _, exec_eraRead_at h⟩
  | eraWrite b' f addr v =>
    obtain rfl : b' = b := by simpa [eraBinding] using hi
    exact ⟨_, fun u => u.sequencerMoved_goto _ _, exec_eraWrite_at h⟩
  | eraPoll b' =>
    obtain rfl : b' = b := by simpa [eraBinding] using hi
    exact ⟨_, fun u => u.sequencerMoved_ret _, State.accept_standsAt (Laws.Admission.eraPoll b') h nofun _⟩
  | _ => simp [eraBinding] at hi

/-- ERA_POLL polls, at its start with the polls counted from zero. -/
theorem exec_eraPoll {s : State} {b : Binding} (h : Idle s (.eraPoll b) ∨ StandsAt s (.eraPoll b) .poll) :
    ∃ x : Fg, x.polls = (if s.fg.op = none then 0 else s.fg.polls) ∧
      exec (.eraPoll b) s = s.eraGuard b ((s.setFg x).pollThen (.eraPoll b) b fun t => t.ret { st := .ok }) := by
  obtain h | h := h
  · exact ⟨Fg.idle, by rw [if_pos h.2]; rfl, State.accept_idle (Laws.Admission.eraPoll b) h nofun _⟩
  · obtain ⟨-, ho, -⟩ := id h
    exact ⟨s.fg, by rw [if_neg (by simp [ho])], State.accept_standsAt (Laws.Admission.eraPoll b) h nofun _⟩

/-- Settles O21: the step is one poll of the control register. -/
theorem eraPollReadsThenTests : Obligations.EraPollReadsThenTests := by
  unfold Obligations.EraPollReadsThenTests
  intro s b h hoff hf
  obtain ⟨x, hx, he⟩ := exec_eraPoll h
  rw [State.eraGuard_off _ hoff] at he
  have hs := exec_eraStep (.inr rfl) he
  obtain ⟨c, -, htr, hz, hcap, hgo⟩ :=
    State.pollThen_tests (s := s.setFg x) (.eraPoll b) b (fun u => u.sequencerMoved_ret { st := .ok }) hf
  rw [← hx]
  refine ⟨_, c, he, htr, fun h0 => ?_, hcap, fun h0 hn => ?_, hs.tableSame, hs.outsideSame, hs.otherSensorsSame⟩
  · rw [hz h0]; exact ⟨rfl, rfl⟩
  · obtain ⟨hg, hfg⟩ := hgo h0 hn
    exact ⟨hg, congrArg Fg.polls hfg⟩

/-- Settles O22: the recorded byte is the one the poll tests. -/
theorem busyPollStaysOrTimesOut : Obligations.BusyPollStaysOrTimesOut := by
  unfold Obligations.BusyPollStaysOrTimesOut
  intro s t i b hi h he ⟨c, hc, htr⟩
  obtain ⟨k, hk, hx⟩ := exec_poll hi h
  obtain ⟨-, rfl⟩ := State.eraGuard_next (hx.symm.trans he)
  have hf : s.answer.fail = false := by
    by_contra hne
    obtain ⟨-, htr'⟩ := State.readThen_failed_returns b s.cfg.regEraCtrl 1 _ (Bool.eq_true_of_not_eq_false hne)
    cases htr.symm.trans htr'
  obtain ⟨c', -, htr', -, hlast, hgo⟩ := State.pollThen_tests i b hk hf
  obtain rfl : c = c' := by simpa using htr.symm.trans htr'
  refine ⟨fun hnone => (hgo hc (by simp [hnone])).1, fun cap hcap => ⟨fun hne => ?_, fun heq => ?_⟩⟩
  · obtain ⟨hg, hfg⟩ := hgo hc (by rw [hcap]; exact fun e => hne (Option.some.inj e).symm)
    exact ⟨hg, congrArg Fg.polls hfg⟩
  · exact hlast hc (by rw [hcap, heq])

end Sys2Proof.Machine
end

section
/-! PROOFS. ERA_READ (O23) and ERA_WRITE (O24), one lemma for each phase: its frame, and where it goes on. -/

namespace Sys2Proof.Machine

open Sys2Proof.Claims

/-! Steps of one frame. -/

/-- A write frame that is done has its effects, whatever the sequencer does after it. -/
theorem State.writeThen_writeFrame {s : State} {b : Binding} {reg : Reg} {v : Byte} {k : State → State}
    (hv : s.cfg.valid = true) (hf : s.answer.fail = false) (hk : ∀ u, State.SequencerMoved u (k u)) :
    WriteFrame s (s.writeThen b reg v k) b reg v := by
  rw [s.writeThen_done b reg v k hf]
  exact (hk _).writeFrame (s.sensorWrite_writeFrame b reg v hv)

theorem State.clearFlagsThen_done {s : State} (b : Binding) (k : State → State) (hf : s.answer.fail = false) :
    s.clearFlagsThen b k =
      k ((s.sensorWrite b s.cfg.regStatus s.cfg.statusClear).record (.write b s.cfg.regStatus s.cfg.statusClear)) :=
  s.writeThen_done b _ _ k hf

/-- A step of one write frame after which the operation goes on in phase `p`, its working values changed by `g`. -/
theorem exec_writes_goesOn {s : State} {i : Instr} {b : Binding} {reg : Reg} {v : Byte} {p : Phase} (g : Fg → Fg)
    (hv : s.cfg.valid = true) (hf : s.answer.fail = false)
    (he : exec i s = .next (s.writeThen b reg v fun u => (u.setFg (g u.fg)).goto i p)) :
    ∃ t, exec i s = .next t ∧ GoesOn s t i p ∧ WriteFrame s t b reg v ∧ t.fg = { g s.fg with op := some i, ph := p } := by
  refine ⟨_, he, ?_, State.writeThen_writeFrame hv hf fun u => u.sequencerMoved_goes _ _ _, ?_⟩
  · rw [s.writeThen_done b reg v _ hf]
    exact ⟨rfl, rfl, s.sensorWrite_result b reg v⟩
  · rw [s.writeThen_done b reg v _ hf, ← s.sensorWrite_fg b reg v]
    rfl

/-- A step of one poll: zero goes on in phase `p`, the working values as they were. -/
theorem exec_polls {s : State} {i : Instr} {b : Binding} {p : Phase} (hf : s.answer.fail = false)
    (he : exec i s = .next (s.pollThen i b fun u => u.goto i p)) :
    ∃ t c, exec i s = .next t ∧ (s.memRead b s.cfg.regEraCtrl 1).1 = some [c] ∧
      t.trace = .read b s.cfg.regEraCtrl 1 [c] :: s.trace ∧
      (∀ a, t.byteAt a = (s.memRead b s.cfg.regEraCtrl 1).2.byteAt a) ∧
      t.sensor b = (s.memRead b s.cfg.regEraCtrl 1).2.sensor b ∧
      (c = 0 → GoesOn s t i p ∧ t.fg = { s.fg with op := some i, ph := p }) ∧
      (c ≠ 0 → s.cfg.eraPollCap ≠ some (s.fg.polls + 1) →
        GoesOn s t i .poll ∧ t.fg = { s.fg with op := some i, ph := .poll, polls := s.fg.polls + 1 }) := by
  have hk : ∀ u : State, State.SequencerMoved u (u.goto i p) := fun u => u.sequencerMoved_goto i p
  obtain ⟨c, hb, htr, hz, -, hgo⟩ := State.pollThen_tests i b hk hf
  obtain ⟨x, r, e⟩ := s.sequencerMoved_pollThen i b hk
  refine ⟨_, c, he, hb, htr, fun a => by rw [e]; rfl, by rw [e]; rfl, fun h0 => ?_, hgo⟩
  rw [hz h0]
  exact ⟨⟨rfl, rfl, s.memRead_result b _ 1⟩, by rw [← s.memRead_fg b s.cfg.regEraCtrl 1]; rfl⟩

/-- A read frame of one register that is not the control register reads a byte and changes nothing (R48). -/
theorem State.memRead_readFrame {s : State} {b : Binding} {reg : Reg} (hv : s.cfg.valid = true)
    (hf : s.answer.fail = false) (hr : reg ≠ s.cfg.regEraCtrl) :
    ∃ v, (s.memRead b reg 1).1 = some [v] ∧ ReadFrame s (s.memRead b reg 1).2 b reg [v] := by
  obtain ⟨hb, -⟩ := s.memRead_done b reg 1 hf
  obtain ⟨v, hl⟩ := List.length_eq_one_iff.mp (deviceSupply_length b 1 0 (s.sensorCommand b (readCommand s.cfg reg)))
  rw [hl] at hb
  obtain ⟨hm, ht, hp, hfe, hli⟩ := s.memRead_plain b reg 1 hv fun j hj => by
    obtain rfl : j = 0 := by omega
    simpa using hr
  exact ⟨v, hb, State.memRead_trace_of_bytes hb, fun a => congrArg (Sparse.get? · a) hm, hfe, hli, hp, ht,
    fun _ => s.memRead_sensor_other reg 1⟩

/-- The two bytes of an address, high byte first, make it (R43). -/
theorem addr_toNat (a : EraAddr) : 256 * (addrHigh a).toNat + (addrLow a).toNat = a.toNat := by
  simp only [addrHigh, addrLow, BitVec.extractLsb'_toNat, Nat.shiftRight_eq_div_pow]
  omega

/-- A write frame leaves the other registers of its window, and the ERA space (R41). -/
theorem writeFrame_window_other {s t : State} {b : Binding} {reg r : Reg} {v : Byte} (h : WriteFrame s t b reg v)
    (hr : r ≠ reg) : t.window b r = s.window b r := by
  obtain ⟨-, -, hother, -⟩ := h
  exact hother _ (windowAddr_ne b hr)

theorem writeFrame_eraByte {s t : State} {b : Binding} {reg : Reg} {v : Byte} (h : WriteFrame s t b reg v)
    (a : EraAddr) : t.eraByte b a = s.eraByte b a := by
  obtain ⟨-, -, hother, -⟩ := h
  exact hother _ (windowAddr_ne_eraAddr b b _ a).symm

/-- The write of the low address byte, after that of the high one, leaves the target at the address (R30). -/
theorem writeFrame_addrLo_target {s t : State} {b : Binding} {addr : EraAddr} (hv : s.cfg.valid = true)
    (h : WriteFrame s t b s.cfg.regEraAddrLo (addrLow addr))
    (hw : s.window b s.cfg.regEraAddrHi = some (addrHigh addr)) : (t.sensor b).target = addr := by
  obtain ⟨-, -, -, -, -, -, -, -, -, -, -, -, hne, -⟩ := Config.valid_regs hv
  have hhi := (writeFrame_window_other h hne).trans hw
  obtain ⟨-, hlo, -, -, -, -, -, htarget, -⟩ := h
  exact BitVec.eq_of_toNat_eq ((htarget (.inr rfl) _ _ hhi hlo).trans (addr_toNat addr))

/-- The write of a control code starts its access at the target, which it leaves with the bytes (R48). -/
theorem writeFrame_ctrl {s t : State} {b : Binding} {code : Byte} (hv : s.cfg.valid = true) (hc : code ≠ 0)
    (h : WriteFrame s t b s.cfg.regEraCtrl code) :
    (t.sensor b).pend = code ∧ (t.sensor b).target = (s.sensor b).target ∧
      t.window b s.cfg.regEraValue = s.window b s.cfg.regEraValue := by
  obtain ⟨-, -, -, -, -, -, -, -, -, -, -, hvc, -, hhc, hlc⟩ := Config.valid_regs hv
  have hval := writeFrame_window_other h hvc
  obtain ⟨-, -, -, -, -, hpend, htarget, -⟩ := h
  exact ⟨hpend.trans (if_pos ⟨rfl, hc⟩), htarget hhc.symm hlc.symm, hval⟩

/-! ERA_READ (R95). -/

section
variable {s : State} {b : Binding} {f : Byte} {addr : EraAddr} {n : Byte}

theorem exec_eraRead_idle (h : Idle s (.eraRead b f addr n)) :
    exec (.eraRead b f addr n) s = .next (s.eraStart (.eraRead b f addr n) b f .addrHi) :=
  State.accept_idle (Laws.Admission.eraRead b f addr n) h nofun _

theorem eraRead_starts (hf : s.answer.fail = false) (h : Idle s (.eraRead b f addr n)) :
    ∃ t, exec (.eraRead b f addr n) s = .next t ∧ GoesOn s t (.eraRead b f addr n) .addrHi ∧
      WriteFrame s t b s.cfg.regFeed1 (feedOffByte s.cfg f) ∧ t.fg.k = 0 ∧ t.fg.bytes = [] := by
  obtain ⟨t, he, hg, hw, hfg⟩ := exec_writes_goesOn (fun _ => Fg.idle) h.1.1 hf
    (exec_eraRead_idle h)
  exact ⟨t, he, hg, hw, by rw [hfg]; rfl, by rw [hfg]; rfl⟩

theorem eraRead_addrHi (hf : s.answer.fail = false) (hoff : (s.sensor b).feed = false)
    (h : StandsAt s (.eraRead b f addr n) .addrHi) :
    ∃ t, exec (.eraRead b f addr n) s = .next t ∧ GoesOn s t (.eraRead b f addr n) .addrLo ∧
      WriteFrame s t b s.cfg.regEraAddrHi (addrHigh addr) ∧ t.fg.k = s.fg.k ∧ t.fg.bytes = s.fg.bytes := by
  obtain ⟨t, he, hg, hw, hfg⟩ := exec_writes_goesOn id h.1.1 hf
    ((exec_eraRead_at h).trans (State.eraGuard_off _ hoff))
  exact ⟨t, he, hg, hw, by rw [hfg]; rfl, by rw [hfg]; rfl⟩

theorem eraRead_addrLo (hf : s.answer.fail = false) (hoff : (s.sensor b).feed = false)
    (h : StandsAt s (.eraRead b f addr n) .addrLo) :
    ∃ t, exec (.eraRead b f addr n) s = .next t ∧ WriteFrame s t b s.cfg.regEraAddrLo (addrLow addr) ∧
      (n = 0 → Returned t { st := .ok, rbytes := some [] }) ∧
      (n ≠ 0 → GoesOn s t (.eraRead b f addr n) .ctrl ∧ t.fg.k = s.fg.k ∧ t.fg.bytes = s.fg.bytes) := by
  refine ⟨_, (exec_eraRead_at h).trans (State.eraGuard_off _ hoff),
    State.writeThen_writeFrame h.1.1 hf fun u => u.sequencerMoved_eraFirstByte _ n, fun hn => ?_, fun hn => ?_⟩
  · rw [s.writeThen_done b _ _ _ hf, if_pos (by rw [hn]; rfl)]
    exact ⟨rfl, rfl⟩
  · have h0 : n.toNat ≠ 0 := fun e => hn (BitVec.eq_of_toNat_eq e)
    rw [s.writeThen_done b _ _ _ hf, if_neg h0]
    exact ⟨⟨rfl, rfl, by simp⟩, by simp, by simp⟩

theorem eraRead_ctrl (hf : s.answer.fail = false) (hoff : (s.sensor b).feed = false)
    (h : StandsAt s (.eraRead b f addr n) .ctrl) :
    ∃ t, exec (.eraRead b f addr n) s = .next t ∧ GoesOn s t (.eraRead b f addr n) .poll ∧
      WriteFrame s t b s.cfg.regEraCtrl s.cfg.eraCtrlReadInc ∧ t.fg.k = s.fg.k ∧ t.fg.bytes = s.fg.bytes ∧
      t.fg.polls = 0 := by
  obtain ⟨t, he, hg, hw, hfg⟩ := exec_writes_goesOn (fun x => { x with polls := 0 }) h.1.1 hf
    ((exec_eraRead_at h).trans (State.eraGuard_off _ hoff))
  exact ⟨t, he, hg, hw, by rw [hfg], by rw [hfg], by rw [hfg]⟩

theorem eraRead_poll_eq (hoff : (s.sensor b).feed = false) (h : StandsAt s (.eraRead b f addr n) .poll) :
    exec (.eraRead b f addr n) s =
      .next (s.pollThen (.eraRead b f addr n) b fun u => u.goto (.eraRead b f addr n) .value) :=
  (exec_eraRead_at h).trans (State.eraGuard_off _ hoff)

theorem eraRead_value (hf : s.answer.fail = false) (hoff : (s.sensor b).feed = false)
    (h : StandsAt s (.eraRead b f addr n) .value) :
    ∃ t v, exec (.eraRead b f addr n) s = .next t ∧ (s.memRead b s.cfg.regEraValue 1).1 = some [v] ∧
      GoesOn s t (.eraRead b f addr n) .clear ∧ ReadFrame s t b s.cfg.regEraValue [v] ∧ t.fg.k = s.fg.k ∧
      t.fg.bytes = s.fg.bytes ++ [v] := by
  obtain ⟨-, -, -, -, -, -, -, -, -, -, -, hvc, -⟩ := Config.valid_regs h.1.1
  obtain ⟨v, hb, hr⟩ := State.memRead_readFrame h.1.1 hf hvc (b := b)
  have he := (exec_eraRead_at h).trans (State.eraGuard_off _ hoff)
  rw [State.readThen_of_bytes _ hb] at he
  exact ⟨_, v, he, hb, ⟨rfl, rfl, s.memRead_result b _ 1⟩, hr, by simp, by simp⟩

theorem eraRead_clear (hf : s.answer.fail = false) (hoff : (s.sensor b).feed = false)
    (h : StandsAt s (.eraRead b f addr n) .clear) :
    ∃ t, exec (.eraRead b f addr n) s = .next t ∧ WriteFrame s t b s.cfg.regStatus s.cfg.statusClear ∧
      (s.fg.k + 1 < n.toNat → GoesOn s t (.eraRead b f addr n) .ctrl ∧ t.fg.k = s.fg.k + 1 ∧ t.fg.bytes = s.fg.bytes) ∧
      (n.toNat ≤ s.fg.k + 1 → Returned t { st := .ok, rbytes := some s.fg.bytes }) := by
  refine ⟨_, (exec_eraRead_at h).trans (State.eraGuard_off _ hoff),
    State.writeThen_writeFrame h.1.1 hf fun u => u.sequencerMoved_eraNextByte _ _, fun hn => ?_, fun hn => ?_⟩
  · rw [State.clearFlagsThen_done b _ hf, State.eraNextByte, if_pos (by simpa using hn)]
    exact ⟨⟨rfl, rfl, by simp⟩, by simp, by simp⟩
  · rw [State.clearFlagsThen_done b _ hf, State.eraNextByte, if_neg (by simpa using hn)]
    exact ⟨by simp, rfl⟩

end

/-- Settles O23, phase by phase. -/
theorem eraReadWalksItsPhases : Obligations.EraReadWalksItsPhases := by
  unfold Obligations.EraReadWalksItsPhases
  intro s b f addr n hf
  refine ⟨eraRead_starts hf, fun hoff => ⟨eraRead_addrHi hf hoff, fun h => ?_, eraRead_ctrl hf hoff, fun h => ?_,
    fun h => ?_, eraRead_clear hf hoff⟩⟩
  · obtain ⟨t, he, hw, hret, hgo⟩ := eraRead_addrLo hf hoff h
    exact ⟨t, he, hw, writeFrame_addrLo_target h.1.1 hw, hret, hgo⟩
  · obtain ⟨t, c, he, -, htr, -, -, hz, -⟩ := exec_polls hf (eraRead_poll_eq hoff h)
    refine ⟨t, c, he, htr, fun h0 => ?_⟩
    obtain ⟨hg, hfg⟩ := hz h0
    exact ⟨hg, by rw [hfg], by rw [hfg]⟩
  · obtain ⟨t, v, he, -, hgo⟩ := eraRead_value hf hoff h
    exact ⟨t, v, he, hgo⟩

/-! ERA_WRITE (R96). -/

section
variable {s : State} {b : Binding} {f : Byte} {addr : EraAddr} {v : Byte}

theorem exec_eraWrite_idle (h : Idle s (.eraWrite b f addr v)) :
    exec (.eraWrite b f addr v) s = .next (s.eraStart (.eraWrite b f addr v) b f .valueW) :=
  State.accept_idle (Laws.Admission.eraWrite b f addr v) h nofun _

theorem eraWrite_starts (hf : s.answer.fail = false) (h : Idle s (.eraWrite b f addr v)) :
    ∃ t, exec (.eraWrite b f addr v) s = .next t ∧ GoesOn s t (.eraWrite b f addr v) .valueW ∧
      WriteFrame s t b s.cfg.regFeed1 (feedOffByte s.cfg f) := by
  obtain ⟨t, he, hg, hw, -⟩ := exec_writes_goesOn (fun _ => Fg.idle) h.1.1 hf
    (exec_eraWrite_idle h)
  exact ⟨t, he, hg, hw⟩

theorem eraWrite_valueW (hf : s.answer.fail = false) (hoff : (s.sensor b).feed = false)
    (h : StandsAt s (.eraWrite b f addr v) .valueW) :
    ∃ t, exec (.eraWrite b f addr v) s = .next t ∧ GoesOn s t (.eraWrite b f addr v) .addrHi ∧
      WriteFrame s t b s.cfg.regEraValue v := by
  obtain ⟨t, he, hg, hw, -⟩ := exec_writes_goesOn id h.1.1 hf
    ((exec_eraWrite_at h).trans (State.eraGuard_off _ hoff))
  exact ⟨t, he, hg, hw⟩

theorem eraWrite_addrHi (hf : s.answer.fail = false) (hoff : (s.sensor b).feed = false)
    (h : StandsAt s (.eraWrite b f addr v) .addrHi) :
    ∃ t, exec (.eraWrite b f addr v) s = .next t ∧ GoesOn s t (.eraWrite b f addr v) .addrLo ∧
      WriteFrame s t b s.cfg.regEraAddrHi (addrHigh addr) := by
  obtain ⟨t, he, hg, hw, -⟩ := exec_writes_goesOn id h.1.1 hf
    ((exec_eraWrite_at h).trans (State.eraGuard_off _ hoff))
  exact ⟨t, he, hg, hw⟩

theorem eraWrite_addrLo (hf : s.answer.fail = false) (hoff : (s.sensor b).feed = false)
    (h : StandsAt s (.eraWrite b f addr v) .addrLo) :
    ∃ t, exec (.eraWrite b f addr v) s = .next t ∧ GoesOn s t (.eraWrite b f addr v) .ctrl ∧
      WriteFrame s t b s.cfg.regEraAddrLo (addrLow addr) := by
  obtain ⟨t, he, hg, hw, -⟩ := exec_writes_goesOn id h.1.1 hf
    ((exec_eraWrite_at h).trans (State.eraGuard_off _ hoff))
  exact ⟨t, he, hg, hw⟩

theorem eraWrite_ctrl (hf : s.answer.fail = false) (hoff : (s.sensor b).feed = false)
    (h : StandsAt s (.eraWrite b f addr v) .ctrl) :
    ∃ t, exec (.eraWrite b f addr v) s = .next t ∧ GoesOn s t (.eraWrite b f addr v) .poll ∧
      WriteFrame s t b s.cfg.regEraCtrl s.cfg.eraCtrlWrite ∧ t.fg.polls = 0 := by
  obtain ⟨t, he, hg, hw, hfg⟩ := exec_writes_goesOn (fun x => { x with polls := 0 }) h.1.1 hf
    ((exec_eraWrite_at h).trans (State.eraGuard_off _ hoff))
  exact ⟨t, he, hg, hw, by rw [hfg]⟩

theorem eraWrite_poll_eq (hoff : (s.sensor b).feed = false) (h : StandsAt s (.eraWrite b f addr v) .poll) :
    exec (.eraWrite b f addr v) s =
      .next (s.pollThen (.eraWrite b f addr v) b fun u => u.goto (.eraWrite b f addr v) .clear) :=
  (exec_eraWrite_at h).trans (State.eraGuard_off _ hoff)

theorem eraWrite_clear (hf : s.answer.fail = false) (hoff : (s.sensor b).feed = false)
    (h : StandsAt s (.eraWrite b f addr v) .clear) :
    ∃ t, exec (.eraWrite b f addr v) s = .next t ∧ WriteFrame s t b s.cfg.regStatus s.cfg.statusClear ∧
      Returned t { st := .ok } := by
  refine ⟨_, (exec_eraWrite_at h).trans (State.eraGuard_off _ hoff),
    State.writeThen_writeFrame h.1.1 hf fun u => u.sequencerMoved_ret _, ?_⟩
  rw [State.clearFlagsThen_done b _ hf]
  exact ⟨rfl, rfl⟩

end

/-- Settles O24, phase by phase. -/
theorem eraWriteWalksItsPhases : Obligations.EraWriteWalksItsPhases := by
  unfold Obligations.EraWriteWalksItsPhases
  intro s b f addr v hf
  refine ⟨eraWrite_starts hf, fun hoff => ⟨eraWrite_valueW hf hoff, eraWrite_addrHi hf hoff, fun h => ?_,
    eraWrite_ctrl hf hoff, fun h => ?_, eraWrite_clear hf hoff⟩⟩
  · obtain ⟨t, he, hg, hw⟩ := eraWrite_addrLo hf hoff h
    exact ⟨t, he, hg, hw, writeFrame_addrLo_target h.1.1 hw⟩
  · obtain ⟨t, c, he, -, htr, -, -, hz, -⟩ := exec_polls hf (eraWrite_poll_eq hoff h)
    exact ⟨t, c, he, htr, fun h0 => (hz h0).1⟩

end Sys2Proof.Machine
end

section
/-! PROOFS. Whole runs of the extended accesses: ERA_READ of one byte (O28), and ERA_WRITE and ERA_READ against the
reference simulated sensor (O29). -/

namespace Sys2Proof.Machine

open Sys2Proof.Claims

/-! Runs of one operation. -/

theorem execRun_succ {i : Instr} {k : Nat} {s₀ s t : State} (h : execRun i k s₀ = some s) (he : exec i s = .next t) :
    execRun i (k + 1) s₀ = some t.tick := by
  induction k generalizing s₀ with
  | zero => obtain rfl := Option.some.inj h; simp only [execRun, he]
  | succ k ih =>
    simp only [execRun] at h
    rw [execRun]
    split at h
    · exact ih h
    · cases h
    · cases h

@[simp] theorem State.tick_sensor (s : State) (b : Binding) : s.tick.sensor b = s.sensor b := rfl

/-- Where the first `m` answers are written out and no frame of theirs fails, so it is for the `n` after `k` of them. -/
theorem noFailure_drop {k n m : Nat} {s t : State} (h : NoFailure m s) (hk : k + n ≤ m)
    (ha : t.answers = s.answers.drop k) : NoFailure n t := by
  obtain ⟨hl, hf⟩ := h
  refine ⟨by rw [ha, List.length_drop]; omega, fun a hm => hf a ?_⟩
  rw [ha, List.take_drop] at hm
  exact List.take_subset_take_left _ hk (List.mem_of_mem_drop hm)

theorem noFailure_answer {n : Nat} {s : State} (h : NoFailure (n + 1) s) : s.answer.fail = false := by
  obtain ⟨hl, hf⟩ := h
  cases ha : s.answers with
  | nil => rw [ha] at hl; cases hl
  | cons a as =>
    rw [State.answer, ha]
    exact hf a (by rw [ha]; exact List.mem_cons_self)

/-- `k` steps of the extended access `i` lead from `s₀` to `s`, with the table as it was and `k` answers used up. -/
structure EraRan (i : Instr) (s₀ : State) (k : Nat) (s : State) : Prop where
  run : execRun i k s₀ = some s
  cfg : s.cfg = s₀.cfg
  answers : s.answers = s₀.answers.drop k
  table : TableSame s₀ s

/-- They lead to phase `p`, with the feed of the access's sensor `b` off. -/
structure EraReaches (i : Instr) (b : Binding) (s₀ : State) (k : Nat) (p : Phase) (s : State) : Prop
    extends EraRan i s₀ k s where
  stands : StandsAt s i p
  feed : (s.sensor b).feed = false

theorem EraRan.start (i : Instr) (s : State) : EraRan i s 0 s := ⟨rfl, rfl, rfl, rfl, rfl, rfl, rfl, rfl, rfl⟩

section
variable {i : Instr} {b : Binding} {s₀ s t : State} {k n : Nat} {p q : Phase}

theorem EraRan.next (h : EraRan i s₀ k s) (hi : eraBinding i = some b) (he : exec i s = .next t) :
    EraRan i s₀ (k + 1) t.tick := by
  have hs := exec_eraStep (.inl hi) he
  obtain ⟨hc, -, ha, -⟩ := hs.outsideSame
  obtain ⟨h1, h2, h3, h4, h5, h6⟩ := hs.tableSame
  obtain ⟨g1, g2, g3, g4, g5, g6⟩ := h.table
  refine ⟨execRun_succ h.run he, hc.trans h.cfg, ?_,
    h1.trans g1, h2.trans g2, h3.trans g3, h4.trans g4, h5.trans g5, h6.trans g6⟩
  rw [State.tick_answers, ha, h.answers, List.tail_drop]

/-- An operation that is runnable stays so while the parameters and the table do (R69, R178). -/
theorem runnable_congr (h : Runnable s i) (hc : t.cfg = s.cfg) (ht : TableSame s t) : Runnable t i := by
  obtain ⟨hv, hw, hm⟩ := h
  obtain ⟨hs, -, -, -, hp, -⟩ := ht
  exact ⟨hc ▸ hv, hc ▸ hw, (State.modeRefusal_congr hc hs hp i).trans hm⟩

/-- A write frame to another register than the feed's, done or failed, changes no feed (R48 (d)). -/
theorem State.memWrite_feed {s : State} {b : Binding} {reg : Reg} (v : Byte) (hv : s.cfg.valid = true)
    (hr : reg ≠ s.cfg.regFeed1) (b' : Binding) : ((s.memWrite b reg v).2.sensor b').feed = (s.sensor b').feed := by
  obtain ⟨e, h | h⟩ := s.memWrite_cases b reg v
  · rw [h]; rfl
  · rw [h, State.record_sensor, s.sensorWrite_feed b b' reg v hv, if_neg fun h => hr h.2]

/-- From its second frame on an access has the feed off, or has returned (R93). -/
theorem exec_era_feed (hv : s.cfg.valid = true) (hi : eraBinding i = some b) (he : exec i s = .next t) :
    t.fg = Fg.idle ∨ (t.sensor b).feed = false := by
  have hs := exec_eraFrame hv (.inl hi) he
  cases hs with
  | disables f hk =>
    cases hf : s.answer.fail with
    | true => exact .inl (State.writeThen_failed_returns b _ _ _ hf).1.2
    | false =>
      obtain ⟨-, -, -, hfeed, -⟩ := State.writeThen_writeFrame (b := b) (reg := s.cfg.regFeed1)
        (v := feedOffByte s.cfg f) hv hf hk
      rw [hfeed, if_pos rfl]
      exact .inr (Config.valid_feed hv f).1
  | writes v hoff hr hk =>
    obtain ⟨x, r, e⟩ := s.sequencerMoved_writeThen b _ v hk
    rw [e]
    exact .inr ((State.memWrite_feed v hv hr b).trans hoff)
  | reads x reg hoff hk =>
    obtain ⟨y, r, e⟩ := (s.setFg x).sequencerMoved_readThen b reg 1 hk
    rw [e]
    exact .inr (((s.setFg x).memRead_feed b b reg 1).trans hoff)

theorem EraRan.reaches (h : EraRan i s₀ k s) (hr : Runnable s i) (hi : eraBinding i = some b)
    (he : exec i s = .next t) (hg : GoesOn s t i p) : EraReaches i b s₀ (k + 1) p t.tick := by
  have hn := h.next hi he
  have hs := exec_eraStep (.inl hi) he
  obtain ⟨ho, hp, -⟩ := hg
  refine ⟨hn, ⟨runnable_congr hr hs.outsideSame.1 hs.tableSame, ho, hp⟩, ?_⟩
  obtain hfg | hfeed := exec_era_feed hr.1 hi he
  · rw [hfg] at ho; cases ho
  · exact hfeed

theorem EraReaches.next (h : EraReaches i b s₀ k q s) (hi : eraBinding i = some b) (he : exec i s = .next t)
    (hg : GoesOn s t i p) : EraReaches i b s₀ (k + 1) p t.tick := h.toEraRan.reaches h.stands.1 hi he hg

theorem EraRan.noFailure (h : EraRan i s₀ k s) (hn : NoFailure n s₀) (hk : k < n) : s.answer.fail = false :=
  noFailure_answer (n := 0) (noFailure_drop hn hk h.answers)

end

/-! ERA_READ of one byte (R95, R99, R101). -/

/-- A byte that the answer to come writes out is the one a freely answering device gives. -/
theorem State.memRead_oracle_byte {s : State} {b : Binding} {c : Byte} (reg : Reg) (hf : s.answer.fail = false)
    (hd : deviceModel s.cfg b = .oracle) (ha : (s.answers[0]?).map (·.bytes) = some [c]) :
    (s.memRead b reg 1).1 = some [c] := by
  rw [State.memRead_oracle reg 1 hf hd]
  cases h : s.answers with
  | nil => rw [h] at ha; cases ha
  | cons a as =>
    rw [h] at ha
    have hb : a.bytes = [c] := Option.some.inj ha
    simp [State.freeBytes, State.freeByte, State.answer, h, hb]

/-- A poll loop with no cap of a freely answering device that reads zero first at its `p`-th poll. -/
theorem eraRead_pollLoop {b : Binding} {f : Byte} {addr : EraAddr} {n : Byte} {s₀ : State} {m : Nat}
    (hd : deviceModel s₀.cfg b = .oracle) (hcap : s₀.cfg.eraPollCap = none) (hn : NoFailure m s₀) (p : Nat) :
    ∀ {k : Nat} {s : State}, EraReaches (.eraRead b f addr n) b s₀ k .poll s → 1 ≤ p → k + p ≤ m →
    (∀ j, j < p → ∃ c, (s₀.answers[k + j]?).map (·.bytes) = some [c] ∧ (c = 0 ↔ j + 1 = p)) →
    ∃ t polls, EraReaches (.eraRead b f addr n) b s₀ (k + p) .value t ∧ polls.length = p ∧
      (∀ e ∈ polls, ∃ c, e = .read b s₀.cfg.regEraCtrl 1 [c]) ∧ t.trace = polls ++ s.trace ∧
      t.fg.k = s.fg.k ∧ t.fg.bytes = s.fg.bytes := by
  induction p with
  | zero => exact fun _ h => absurd h (by decide)
  | succ p ih =>
    intro k s h _ hk hc
    have hf := h.noFailure hn (by omega)
    obtain ⟨c, hb, hz⟩ := hc 0 (by omega)
    rw [Nat.add_zero, ← Nat.add_zero k, ← List.getElem?_drop, ← h.answers] at hb
    obtain ⟨t, c', he, hbytes, htr, -, -, hzero, hbusy⟩ := exec_polls hf (eraRead_poll_eq h.feed h.stands)
    obtain rfl : c' = c := by
      simpa using hbytes.symm.trans (State.memRead_oracle_byte s.cfg.regEraCtrl hf (by rw [h.cfg]; exact hd) hb)
    rw [h.cfg] at htr
    by_cases h0 : c' = 0
    · obtain ⟨hg, hfg⟩ := hzero h0
      obtain rfl : p = 0 := by simpa using (hz.mp h0).symm
      exact ⟨t.tick, [_], h.next rfl he hg, rfl, by simp, htr, by rw [State.tick_fg, hfg], by rw [State.tick_fg, hfg]⟩
    · obtain ⟨hg, hfg⟩ := hbusy h0 (by simp [h.cfg, hcap])
      have hp : p ≠ 0 := fun e => h0 (hz.mpr (by omega))
      obtain ⟨u, polls, hr, hl, hall, htu, hku, hbu⟩ := ih (h.next rfl he hg) (by omega) (by omega) fun j hj => by
        obtain ⟨c, hb, hz⟩ := hc (j + 1) (by omega)
        exact ⟨c, by rwa [Nat.add_assoc, Nat.add_comm 1], by rw [hz]; omega⟩
      refine ⟨u, polls ++ [.read b s₀.cfg.regEraCtrl 1 [c']], by rwa [Nat.add_assoc, Nat.add_comm 1] at hr,
        by simp [hl], ?_, ?_, ?_, ?_⟩
      · intro e he
        obtain he | he := List.mem_append.mp he
        · exact hall e he
        · exact ⟨c', by simpa using he⟩
      · rw [htu, State.tick_trace, htr, List.append_assoc]; rfl
      · rw [hku, State.tick_fg, hfg]
      · rw [hbu, State.tick_fg, hfg]

/-- The first three frames of ERA_READ of some byte, up to its first control code: the feed off, then the address. -/
theorem eraRead_reaches_ctrl {s : State} {b : Binding} {f : Byte} {addr : EraAddr} {n : Byte} {m : Nat}
    (hi : Idle s (.eraRead b f addr n)) (hn : n ≠ 0) (hm : NoFailure m s) (h3 : 3 ≤ m) :
    ∃ t, EraReaches (.eraRead b f addr n) b s 3 .ctrl t ∧ t.fg.k = 0 ∧ t.fg.bytes = [] ∧
      t.trace = .write b s.cfg.regEraAddrLo (addrLow addr) :: .write b s.cfg.regEraAddrHi (addrHigh addr) ::
        .write b s.cfg.regFeed1 (feedOffByte s.cfg f) :: s.trace ∧
      (t.sensor b).target = addr ∧ ∀ a, t.eraByte b a = s.eraByte b a := by
  have r0 := EraRan.start (.eraRead b f addr n) s
  obtain ⟨t1, he1, hg1, hw1, hk1, hb1⟩ := eraRead_starts (r0.noFailure hm (by omega)) hi
  have r1 := r0.reaches hi.1 rfl he1 hg1
  obtain ⟨t2, he2, hg2, hw2, hk2, hb2⟩ := eraRead_addrHi (r1.noFailure hm (by omega)) r1.feed r1.stands
  have r2 := r1.next rfl he2 hg2
  obtain ⟨t3, he3, hw3, -, hgo⟩ := eraRead_addrLo (r2.noFailure hm (by omega)) r2.feed r2.stands
  obtain ⟨hg3, hk3, hb3⟩ := hgo hn
  have ht := writeFrame_addrLo_target r2.stands.1.1 hw3
    (by rw [r2.cfg, ← r1.cfg]; exact hw2.2.1)
  rw [r2.cfg] at hw3
  rw [r1.cfg] at hw2
  refine ⟨t3.tick, r2.next rfl he3 hg3, hk3.trans (hk2.trans hk1), hb3.trans (hb2.trans hb1), ?_, ht, fun a =>
    (writeFrame_eraByte hw3 a).trans ((writeFrame_eraByte hw2 a).trans (writeFrame_eraByte hw1 a))⟩
  obtain ⟨htr1, -⟩ := hw1
  obtain ⟨htr2, -⟩ := hw2
  obtain ⟨htr3, -⟩ := hw3
  rw [State.tick_trace, htr3, State.tick_trace, htr2, State.tick_trace, htr1]

/-- Settles O28: three frames, the control code, the poll loop, the value and the flags. -/
theorem eraReadOfOneByteCompletes : Obligations.EraReadOfOneByteCompletes := by
  unfold Obligations.EraReadOfOneByteCompletes
  intro s b f addr p v hi hd hcap hp hn hpolls hval
  obtain ⟨t3, r3, hk3, hb3, htr3, -⟩ := eraRead_reaches_ctrl hi (by decide) hn (by omega)
  obtain ⟨t4, he4, hg4, ⟨htr4, -⟩, hk4, hb4, -⟩ := eraRead_ctrl (r3.noFailure hn (by omega)) r3.feed r3.stands
  obtain ⟨t5, polls, r5, hl, hall, htr5, hk5, hb5⟩ :=
    eraRead_pollLoop hd hcap hn p (r3.next rfl he4 hg4) hp (by omega) hpolls
  have hf5 := r5.noFailure hn (by omega)
  obtain ⟨t6, v', he6, hbytes, hg6, ⟨htr6, -⟩, hk6, hb6⟩ := eraRead_value hf5 r5.feed r5.stands
  obtain rfl : v' = v := by
    have hval' : (t5.answers[0]?).map (·.bytes) = some [v] := by rw [r5.answers, List.getElem?_drop]; exact hval
    simpa using hbytes.symm.trans (State.memRead_oracle_byte _ hf5 (by rw [r5.cfg]; exact hd) hval')
  have r6 := r5.next rfl he6 hg6
  obtain ⟨t7, he7, ⟨htr7, -, -, hfeed7, -⟩, -, hret⟩ := eraRead_clear (r6.noFailure hn (by omega)) r6.feed r6.stands
  have hk : t6.tick.fg.k = 0 := hk6.trans (hk5.trans (hk4.trans hk3))
  have hb : t6.tick.fg.bytes = [v'] := by
    rw [State.tick_fg, hb6, hb5, State.tick_fg, hb4, hb3]; rfl
  refine ⟨t7.tick, polls, ?_, ?_, hl, hall, ?_, ?_⟩
  · have := (r6.toEraRan.next (b := b) rfl he7).run
    rwa [show 3 + 1 + p + 1 + 1 = 6 + p by omega] at this
  · obtain ⟨hr, hfg⟩ := hret (by rw [hk]; decide)
    rw [hb] at hr
    exact ⟨hr, hfg⟩
  · rw [State.tick_trace, htr7, r6.cfg, State.tick_trace, htr6, r5.cfg, htr5, State.tick_trace, htr4, r3.cfg, htr3]
    rfl
  · obtain ⟨hsf, -⟩ := Config.valid_regs r6.stands.1.1
    exact hfeed7.trans ((if_neg hsf).trans r6.feed)

/-! The reference simulated sensor (spec/95_test_vectors.md part 2). -/

/-- With no access in progress it presents what a register holds, zero where nothing was written. -/
theorem State.memRead_refSim_settled {s : State} {b : Binding} (reg : Reg) (hv : s.cfg.valid = true)
    (hf : s.answer.fail = false) (hd : deviceModel s.cfg b = .refSim) (hp : (s.sensor b).pend = 0) :
    (s.memRead b reg 1).1 = some [(s.window b reg).getD 0] := by
  rw [(s.memRead_done b reg 1 hf).1, s.sensorCommand_read b reg hv]
  simp [deviceSupply, State.presented, hd, hp, State.window]

/-- Polled with an access in progress it presents the access's code and completes the access. -/
theorem State.memRead_refSim_busy {s : State} {b : Binding} (hv : s.cfg.valid = true) (hf : s.answer.fail = false)
    (hd : deviceModel s.cfg b = .refSim) (hp : (s.sensor b).pend ≠ 0) :
    (s.memRead b s.cfg.regEraCtrl 1).1 = some [(s.sensor b).pend] ∧
      ((s.memRead b s.cfg.regEraCtrl 1).2.sensor b).pend = 0 ∧
      (s.memRead b s.cfg.regEraCtrl 1).2.mem =
        ((s.setSensor b { s.sensor b with ptr := s.cfg.regEraCtrl, dir := .reading }).completeAccess b).mem := by
  have hp' : ¬(s.sensor b).pend = 0#8 := hp
  simp [State.memRead, hf, s.sensorCommand_read b _ hv, deviceSupply, State.presented, State.afterByte,
    State.completesOnRead, hd, hp', State.endFrame, State.completeAccess_sensor]

/-- The completed access leaves zero in the control register, the byte at the target in the value register after a read,
and the value register's byte at the target after a write (R30). -/
theorem State.memRead_refSim_completes {s : State} {b : Binding} (hv : s.cfg.valid = true) (hf : s.answer.fail = false)
    (hd : deviceModel s.cfg b = .refSim) (hp : (s.sensor b).pend ≠ 0) :
    let u := (s.memRead b s.cfg.regEraCtrl 1).2
    u.window b s.cfg.regEraCtrl = some 0 ∧
      ((s.sensor b).pend = s.cfg.eraCtrlReadInc → u.window b s.cfg.regEraValue = s.eraByte b (s.sensor b).target) ∧
      ((s.sensor b).pend = s.cfg.eraCtrlWrite → u.eraByte b (s.sensor b).target = s.window b s.cfg.regEraValue) := by
  obtain ⟨-, -, hm⟩ := State.memRead_refSim_busy hv hf hd hp
  have hbyte := fun a => congrArg (Sparse.get? · a) hm
  obtain ⟨-, hread, hwrite⟩ := State.completeAccess_effect
    (s := s.setSensor b { s.sensor b with ptr := s.cfg.regEraCtrl, dir := .reading }) b hv
  simp only [State.sensor_setSensor_same] at hread hwrite
  exact ⟨(hbyte _).trans (State.completeAccess_window_ctrl b hv), fun h => (hbyte _).trans (hread h).1,
    fun h => (hbyte _).trans (hwrite h).1⟩

/-- Its handshake is two polls, the first of the code, the second of zero, and the access is then complete (R102). -/
theorem refSim_handshake {i : Instr} {b : Binding} {s₀ s : State} {k m : Nat} {p : Phase} (hi : eraBinding i = some b)
    (hpoll : ∀ u : State, (u.sensor b).feed = false → StandsAt u i .poll →
      exec i u = .next (u.pollThen i b fun t => t.goto i p))
    (h : EraReaches i b s₀ k .poll s) (hd : deviceModel s₀.cfg b = .refSim) (hcap : s₀.cfg.eraPollCap = none)
    (hn : NoFailure m s₀) (hk : k + 2 ≤ m) (hp : (s.sensor b).pend ≠ 0) :
    ∃ t, EraReaches i b s₀ (k + 2) p t ∧ t.fg.k = s.fg.k ∧ t.fg.bytes = s.fg.bytes ∧
      t.trace = .read b s₀.cfg.regEraCtrl 1 [0] :: .read b s₀.cfg.regEraCtrl 1 [(s.sensor b).pend] :: s.trace ∧
      (t.sensor b).pend = 0 ∧
      ((s.sensor b).pend = s₀.cfg.eraCtrlReadInc →
        t.window b s₀.cfg.regEraValue = s.eraByte b (s.sensor b).target) ∧
      ((s.sensor b).pend = s₀.cfg.eraCtrlWrite →
        t.eraByte b (s.sensor b).target = s.window b s₀.cfg.regEraValue) := by
  have hf := h.noFailure hn (by omega)
  have hd1 : deviceModel s.cfg b = .refSim := by rw [h.cfg]; exact hd
  obtain ⟨t, c, he, hb, htr, hbyte, hsens, -, hbusy⟩ := exec_polls hf (hpoll s h.feed h.stands)
  obtain ⟨hcode, hpend, -⟩ := State.memRead_refSim_busy h.stands.1.1 hf hd1 hp
  obtain ⟨hctrl, hread, hwrite⟩ := State.memRead_refSim_completes h.stands.1.1 hf hd1 hp
  obtain rfl : c = (s.sensor b).pend := by simpa using hb.symm.trans hcode
  obtain ⟨hg, hfg⟩ := hbusy hp (by simp [h.cfg, hcap])
  have r1 := h.next hi he hg
  have hpend1 : (t.tick.sensor b).pend = 0 := (congrArg Sensor.pend hsens).trans hpend
  have hf1 := r1.noFailure hn (by omega)
  obtain ⟨u, c', he', hb', htr', hbyte', hsens', hzero, -⟩ := exec_polls hf1 (hpoll _ r1.feed r1.stands)
  have hsettled := State.memRead_refSim_settled t.tick.cfg.regEraCtrl r1.stands.1.1 hf1 (by rw [r1.cfg]; exact hd) hpend1
  have hctrl1 : t.tick.window b t.tick.cfg.regEraCtrl = some 0 := by
    rw [r1.cfg, ← h.cfg]; exact (hbyte _).trans hctrl
  rw [hctrl1] at hsettled
  obtain rfl : c' = 0 := by simpa using hb'.symm.trans hsettled
  obtain ⟨hg', hfg'⟩ := hzero rfl
  obtain ⟨hsame, hpend2, -⟩ := State.memRead_undisturbed (n := 1) (reg := t.tick.cfg.regEraCtrl) r1.stands.1.1
    (.inl hpend1)
  have hdone : ∀ a, u.tick.byteAt a = (s.memRead b s.cfg.regEraCtrl 1).2.byteAt a :=
    fun a => (hbyte' a).trans ((hsame a).trans (hbyte a))
  rw [h.cfg] at htr hread hwrite hdone
  rw [r1.cfg] at htr'
  refine ⟨u.tick, r1.next hi he' hg', by rw [State.tick_fg, hfg', State.tick_fg, hfg],
    by rw [State.tick_fg, hfg', State.tick_fg, hfg], by rw [State.tick_trace, htr', State.tick_trace, htr],
    (congrArg Sensor.pend hsens').trans (hpend2.trans hpend1),
    fun hr => (hdone _).trans (hread hr), fun hw => (hdone _).trans (hwrite hw)⟩

/-- The first four frames of ERA_WRITE, up to its control code: the feed off, the value, then the address. -/
theorem eraWrite_reaches_ctrl {s : State} {b : Binding} {f : Byte} {addr : EraAddr} {v : Byte} {m : Nat}
    (hi : Idle s (.eraWrite b f addr v)) (hm : NoFailure m s) (h4 : 4 ≤ m) :
    ∃ t, EraReaches (.eraWrite b f addr v) b s 4 .ctrl t ∧
      t.trace = .write b s.cfg.regEraAddrLo (addrLow addr) :: .write b s.cfg.regEraAddrHi (addrHigh addr) ::
        .write b s.cfg.regEraValue v :: .write b s.cfg.regFeed1 (feedOffByte s.cfg f) :: s.trace ∧
      (t.sensor b).target = addr ∧ t.window b s.cfg.regEraValue = some v := by
  obtain ⟨-, -, -, -, -, -, -, -, -, hvh, hvl, -⟩ := Config.valid_regs hi.1.1
  have r0 := EraRan.start (.eraWrite b f addr v) s
  obtain ⟨t1, he1, hg1, hw1⟩ := eraWrite_starts (r0.noFailure hm (by omega)) hi
  have r1 := r0.reaches hi.1 rfl he1 hg1
  obtain ⟨t2, he2, hg2, hw2⟩ := eraWrite_valueW (r1.noFailure hm (by omega)) r1.feed r1.stands
  have r2 := r1.next rfl he2 hg2
  obtain ⟨t3, he3, hg3, hw3⟩ := eraWrite_addrHi (r2.noFailure hm (by omega)) r2.feed r2.stands
  have r3 := r2.next rfl he3 hg3
  obtain ⟨t4, he4, hg4, hw4⟩ := eraWrite_addrLo (r3.noFailure hm (by omega)) r3.feed r3.stands
  have ht := writeFrame_addrLo_target r3.stands.1.1 hw4 (by rw [r3.cfg, ← r2.cfg]; exact hw3.2.1)
  rw [r1.cfg] at hw2
  rw [r2.cfg] at hw3
  rw [r3.cfg] at hw4
  refine ⟨t4.tick, r3.next rfl he4 hg4, ?_, ht,
    (writeFrame_window_other hw4 hvl).trans ((writeFrame_window_other hw3 hvh).trans hw2.2.1)⟩
  obtain ⟨htr1, -⟩ := hw1
  obtain ⟨htr2, -⟩ := hw2
  obtain ⟨htr3, -⟩ := hw3
  obtain ⟨htr4, -⟩ := hw4
  rw [State.tick_trace, htr4, State.tick_trace, htr3, State.tick_trace, htr2, State.tick_trace, htr1]

/-- ERA_WRITE leaves its byte at the extended address of the simulated sensor (R102). -/
theorem eraWrite_refSim {s : State} {b : Binding} {f : Byte} {addr : EraAddr} {v : Byte}
    (hi : Idle s (.eraWrite b f addr v)) (hd : deviceModel s.cfg b = .refSim) (hcap : s.cfg.eraPollCap = none)
    (hn : NoFailure 8 s) :
    ∃ t, EraRan (.eraWrite b f addr v) s 8 t ∧ Returned t { st := .ok } ∧ t.eraByte b addr = some v ∧
      t.trace = .write b s.cfg.regStatus s.cfg.statusClear :: .read b s.cfg.regEraCtrl 1 [0] ::
        .read b s.cfg.regEraCtrl 1 [s.cfg.eraCtrlWrite] :: .write b s.cfg.regEraCtrl s.cfg.eraCtrlWrite ::
        .write b s.cfg.regEraAddrLo (addrLow addr) :: .write b s.cfg.regEraAddrHi (addrHigh addr) ::
        .write b s.cfg.regEraValue v :: .write b s.cfg.regFeed1 (feedOffByte s.cfg f) :: s.trace := by
  obtain ⟨-, hcode, -⟩ := Config.valid_codes hi.1.1
  obtain ⟨t4, r4, htr4, htarget4, hval4⟩ := eraWrite_reaches_ctrl hi hn (by decide)
  obtain ⟨t5, he5, hg5, hw5, -⟩ := eraWrite_ctrl (r4.noFailure hn (by omega)) r4.feed r4.stands
  have r5 := r4.next rfl he5 hg5
  obtain ⟨hpend5, htarget5, hval5⟩ := writeFrame_ctrl r4.stands.1.1 (by rw [r4.cfg]; exact hcode) hw5
  rw [r4.cfg] at hw5 hval5 hpend5
  obtain ⟨t7, r7, -, -, htr7, -, -, hdone⟩ := refSim_handshake (s := t5.tick) rfl (fun _ => eraWrite_poll_eq) r5 hd hcap
    hn (by omega) (by rw [State.tick_sensor, hpend5]; exact hcode)
  have hera7 : t7.eraByte b addr = some v := by
    have htarget : (t5.tick.sensor b).target = addr := htarget5.trans htarget4
    rw [← htarget, hdone hpend5]
    exact hval5.trans hval4
  obtain ⟨t8, he8, hw8, hret⟩ := eraWrite_clear (r7.noFailure hn (by omega)) r7.feed r7.stands
  rw [r7.cfg] at hw8
  refine ⟨t8.tick, r7.toEraRan.next (b := b) rfl he8, hret, (writeFrame_eraByte hw8 addr).trans hera7, ?_⟩
  obtain ⟨htr5, -⟩ := hw5
  obtain ⟨htr8, -⟩ := hw8
  simp only [State.tick_trace, htr8, htr7, htr5, htr4, State.tick_sensor, hpend5]

/-- ERA_READ of one byte reads the byte at the extended address of the simulated sensor (R102). -/
theorem eraRead_refSim {s : State} {b : Binding} {f : Byte} {addr : EraAddr} {v : Byte}
    (hi : Idle s (.eraRead b f addr 1)) (hd : deviceModel s.cfg b = .refSim) (hcap : s.cfg.eraPollCap = none)
    (hn : NoFailure 8 s) (hera : s.eraByte b addr = some v) :
    ∃ t, EraRan (.eraRead b f addr 1) s 8 t ∧ Returned t { st := .ok, rbytes := some [v] } ∧
      t.trace = .write b s.cfg.regStatus s.cfg.statusClear :: .read b s.cfg.regEraValue 1 [v] ::
        .read b s.cfg.regEraCtrl 1 [0] :: .read b s.cfg.regEraCtrl 1 [s.cfg.eraCtrlReadInc] ::
        .write b s.cfg.regEraCtrl s.cfg.eraCtrlReadInc :: .write b s.cfg.regEraAddrLo (addrLow addr) ::
        .write b s.cfg.regEraAddrHi (addrHigh addr) :: .write b s.cfg.regFeed1 (feedOffByte s.cfg f) :: s.trace := by
  obtain ⟨hcode, -⟩ := Config.valid_codes hi.1.1
  obtain ⟨t3, r3, hk3, hb3, htr3, htarget3, hera3⟩ := eraRead_reaches_ctrl hi (by decide) hn (by omega)
  obtain ⟨t4, he4, hg4, hw4, hk4, hb4, -⟩ := eraRead_ctrl (r3.noFailure hn (by omega)) r3.feed r3.stands
  have r4 := r3.next rfl he4 hg4
  obtain ⟨hpend4, htarget4, -⟩ := writeFrame_ctrl r3.stands.1.1 (by rw [r3.cfg]; exact hcode) hw4
  rw [r3.cfg] at hw4 hpend4
  obtain ⟨t6, r6, hk6, hb6, htr6, hpend6, hdone, -⟩ := refSim_handshake (s := t4.tick) rfl (fun _ => eraRead_poll_eq) r4 hd
    hcap hn (by omega) (by rw [State.tick_sensor, hpend4]; exact hcode)
  have hval6 : t6.window b s.cfg.regEraValue = some v := by
    have htarget : (t4.tick.sensor b).target = addr := htarget4.trans htarget3
    rw [hdone hpend4, htarget]
    exact (writeFrame_eraByte hw4 addr).trans ((hera3 addr).trans hera)
  have hf6 := r6.noFailure hn (by omega)
  obtain ⟨t7, v', he7, hbytes, hg7, ⟨htr7, -⟩, hk7, hb7⟩ := eraRead_value hf6 r6.feed r6.stands
  obtain rfl : v' = v := by
    have := State.memRead_refSim_settled t6.cfg.regEraValue r6.stands.1.1 hf6 (by rw [r6.cfg]; exact hd) hpend6
    rw [r6.cfg] at this hbytes
    simpa [hval6] using hbytes.symm.trans this
  have r7 := r6.next rfl he7 hg7
  obtain ⟨t8, he8, ⟨htr8, -⟩, -, hret⟩ := eraRead_clear (r7.noFailure hn (by omega)) r7.feed r7.stands
  have hk : t7.tick.fg.k = 0 := hk7.trans (hk6.trans (hk4.trans hk3))
  have hb : t7.tick.fg.bytes = [v'] := by rw [State.tick_fg, hb7, hb6, State.tick_fg, hb4, hb3]; rfl
  obtain ⟨hr, hfg⟩ := hret (by rw [hk]; decide)
  rw [hb] at hr
  refine ⟨t8.tick, r7.toEraRan.next (b := b) rfl he8, ⟨hr, hfg⟩, ?_⟩
  obtain ⟨htr4, -⟩ := hw4
  rw [r7.cfg] at htr8
  rw [r6.cfg] at htr7
  simp only [State.tick_trace, htr8, htr7, htr6, htr4, htr3, State.tick_sensor, hpend4, List.length_singleton]

/-- Settles O29: the write leaves the byte at the address, and the read finds it there. -/
theorem simulatedEraRoundTrip : Obligations.SimulatedEraRoundTrip := by
  unfold Obligations.SimulatedEraRoundTrip
  intro s b f addr v hw hr hd hcap hn
  obtain ⟨t, rt, hret, hera, htr⟩ := eraWrite_refSim hw hd hcap (noFailure_drop (k := 0) hn (by decide) rfl)
  have hi : Idle t (.eraRead b f addr 1) := ⟨runnable_congr hr.1 rt.cfg rt.table, by rw [hret.2]; rfl⟩
  obtain ⟨u, ru, hretu, htru⟩ := eraRead_refSim hi (by rw [rt.cfg]; exact hd) (by rw [rt.cfg]; exact hcap)
    (noFailure_drop hn (by decide) rt.answers) hera
  rw [rt.cfg] at htru
  exact ⟨t, u, rt.run, hret, htr, ru.run, hretu, htru⟩

end Sys2Proof.Machine
end

section
/-! PROOFS. The feed stays off inside an extended access (O30): who meets the fault of R165, what a step does to a
sensor's feed, and the write of another agent that turns the feed on (R93). -/

namespace Sys2Proof.Machine

open Sys2Proof.Claims

/-! The fault of R165. -/

/-- An operation that meets a fault was admitted and its body met it. -/
theorem State.accept_fault {s : State} {i : Instr} {body : Phase → Host.Outcome State Fault Refusal} {r : Fault}
    (h : s.accept i body = .fault r) : ∃ p, s.phaseOf i = some p ∧ body p = .fault r := by
  unfold State.accept at h
  split at h
  · cases h
  · split at h
    · cases h
    · rename_i p hp
      split at h
      · cases h
      · exact ⟨p, hp, h⟩

theorem State.onBus_ne_fault {s t : State} {b : Binding} {r : Fault} : s.onBus b t ≠ .fault r := by
  unfold State.onBus
  split <;> nofun

theorem State.eraGuard_fault {s t : State} {b : Binding} {r : Fault} (h : s.eraGuard b t = .fault r) :
    (s.sensor b).feed = true := by
  unfold State.eraGuard at h
  split at h
  · assumption
  · cases h

/-- The phases of an extended access after its first frame, the one that R165 lets through. -/
def Phase.afterFirst (p : Phase) : Prop := p ≠ .idle ∧ p ≠ .feedOff

theorem eraReadPhase_fault {b : Binding} {f : Byte} {addr : EraAddr} {n : Byte} {s : State} {p : Phase} {r : Fault}
    (h : eraReadPhase b f addr n s p = .fault r) : p.afterFirst ∧ (s.sensor b).feed = true := by
  cases p with
  | idle | feedOff | valueW | line k => cases h
  | addrHi | addrLo | ctrl | poll | value | clear => exact ⟨⟨nofun, nofun⟩, State.eraGuard_fault h⟩

theorem eraWritePhase_fault {b : Binding} {f : Byte} {addr : EraAddr} {v : Byte} {s : State} {p : Phase} {r : Fault}
    (h : eraWritePhase b f addr v s p = .fault r) : p.afterFirst ∧ (s.sensor b).feed = true := by
  cases p with
  | idle | feedOff | value | line k => cases h
  | valueW | addrHi | addrLo | ctrl | poll | clear => exact ⟨⟨nofun, nofun⟩, State.eraGuard_fault h⟩

theorem registerLine_ne_fault {pin : Pin} {b : Binding} {f : Byte} {r : StorageRef} {s : State} {k : Nat} {e : Fault} :
    registerLine pin b f r s k ≠ .fault e := by
  unfold registerLine
  split <;> (try split) <;> nofun

theorem unregisterLine_ne_fault {i : Nat} {s : State} {k : Nat} {e : Fault} : unregisterLine i s k ≠ .fault e := by
  unfold unregisterLine
  split <;> nofun

theorem execIrqBody_ne_fault {i : Nat} {s : State} {r : Fault} : exec (.irqBody i) s ≠ .fault r := by
  simp only [exec, execIrqBody]
  split
  · nofun
  · split
    case h_1 => split <;> nofun
    all_goals nofun

/-- A fault of an instruction is that of an extended access after its first frame, or of ERA_POLL, with the feed of its
sensor on (R165). -/
theorem exec_fault {i : Instr} {s : State} {r : Fault} (h : exec i s = .fault r) :
    ∃ b, (s.sensor b).feed = true ∧
      ((eraBinding i = some b ∧ s.fg.op = some i ∧ s.fg.ph.afterFirst) ∨ i = .eraPoll b) := by
  cases i with
  | eraRead b f addr n =>
    obtain ⟨p, hp, h⟩ := State.accept_fault h
    obtain ⟨hq, hon⟩ := eraReadPhase_fault h
    obtain ⟨ho, rfl⟩ := State.phaseOf_progress hp hq.1
    exact ⟨b, hon, .inl ⟨rfl, ho, hq⟩⟩
  | eraWrite b f addr v =>
    obtain ⟨p, hp, h⟩ := State.accept_fault h
    obtain ⟨hq, hon⟩ := eraWritePhase_fault h
    obtain ⟨ho, rfl⟩ := State.phaseOf_progress hp hq.1
    exact ⟨b, hon, .inl ⟨rfl, ho, hq⟩⟩
  | eraPoll b =>
    obtain ⟨p, -, h⟩ := State.accept_fault h
    cases p with
    | idle | poll => exact ⟨b, State.eraGuard_fault h, .inr rfl⟩
    | feedOff | valueW | addrHi | addrLo | ctrl | value | clear | line k => cases h
  | register pin b f r =>
    obtain ⟨p, -, h⟩ := State.accept_fault h
    cases p with
    | idle | line k => exact absurd h registerLine_ne_fault
    | feedOff | valueW | addrHi | addrLo | ctrl | poll | value | clear => cases h
  | unregister k =>
    obtain ⟨p, -, h⟩ := State.accept_fault h
    cases p with
    | idle | line k => exact absurd h unregisterLine_ne_fault
    | feedOff | valueW | addrHi | addrLo | ctrl | poll | value | clear => cases h
  | irqBody k => exact absurd h execIrqBody_ne_fault
  | rapcmdRead b a | rapcmdWrite b a => exact absurd h State.onBus_ne_fault
  | eraCtrlReadInc b | eraCtrlWrite b | eraCtrlDone b => exact absurd h State.onBus_ne_fault
  | decodeAbs b0 b1 b2 b3 b4 b5 | decodeRel b0 b1 b2 b3 | cmdReserved low => cases h
  | rapRead b reg count | rapWrite b reg v | consumeReady k | clearReady k
  | feedDisable b f | feedEnable b f | clearFlags b =>
    obtain ⟨p, -, h⟩ := State.accept_fault h
    cases h

/-- No word decodes to ERA_POLL: it has no encoding (R73). -/
theorem decode_ne_eraPoll {c : Config} {w : Fetch} {b : Binding} : decode c w ≠ .ok (.eraPoll b) := by
  cases w with
  | port f =>
    simp only [decode, decodePort]
    split <;> nofun
  | busCommand b cmd =>
    simp only [decode, decodeBusCommand]
    split
    · nofun
    · split <;> nofun
  | eraCode b code =>
    simp only [decode, decodeEraCode]
    split
    · nofun
    · split
      · nofun
      · split <;> nofun

/-- In the foreground `FeedOffInv` excludes the fault: an access that goes on has its feed off, one that starts disables
it first, and ERA_POLL is neither in progress nor at the port. -/
theorem foregroundStep_ne_fault {s : State} {r : Fault} (hs : s.FeedOffInv) : foregroundStep s ≠ .fault r := by
  obtain ⟨-, hp, hoff⟩ := hs
  intro h
  unfold foregroundStep at h
  split at h
  · rename_i i hi
    obtain ⟨b, hon, ⟨hb, -, h1, h2⟩ | rfl⟩ := exec_fault h
    · rw [hoff i b hi hb h1 h2] at hon; cases hon
    · exact hp b hi
  · rename_i hn
    split at h
    · cases h
    · split at h
      · cases h
      · rename_i i hd
        obtain ⟨b, -, ⟨-, ho, -⟩ | rfl⟩ := exec_fault h
        · rw [State.takePort_fg, hn] at ho; cases ho
        · exact decode_ne_eraPoll hd

/-! What does not read the moves, the wait or the record. -/

theorem State.FeedOffInv.of_same {s t : State} (h : s.FeedOffInv) (hc : t.cfg = s.cfg) (hfg : t.fg = s.fg)
    (hf : ∀ b, (t.sensor b).feed = (s.sensor b).feed) : t.FeedOffInv := by
  unfold State.FeedOffInv
  simp only [hc, hfg, hf]
  exact h

theorem agentStep_ne_fault {s : State} {r : Fault} (hs : s.FeedOffInv) : agentStep s ≠ .fault r := by
  unfold agentStep
  split
  · exact execIrqBody_ne_fault
  · exact foregroundStep_ne_fault hs

/-- A dispatch inside a frame meets no fault but that of R168. -/
theorem State.dispatchInside_ne_fault {s : State} {i : Nat} : s.dispatchInside i ≠ .fault .eraWhileFeedOn := by
  unfold State.dispatchInside
  split
  · split
    · nofun
    · exact execIrqBody_ne_fault
  · exact execIrqBody_ne_fault

theorem freeStep_ne_fault {s : State} (hs : s.FeedOffInv) : freeStep s ≠ .fault .eraWhileFeedOn := by
  unfold freeStep
  split
  · exact agentStep_ne_fault hs
  · split
    · unfold State.dispatchFreely
      split
      · exact State.dispatchInside_ne_fault
      · exact execIrqBody_ne_fault
    · exact agentStep_ne_fault (hs.of_same rfl rfl fun _ => rfl)

theorem doMove_ne_fault {m : Move} {s : State} (hs : s.FeedOffInv) : doMove m s ≠ .fault .eraWhileFeedOn := by
  cases m with
  | present w | setIE v | await | pulse p | sample b bytes | powerCycle => nofun
  | writeMode r md => simp only [doMove, State.writeMode]; split <;> nofun
  | load r f => simp only [doMove, State.load]; split <;> nofun
  | discard x =>
    simp only [doMove, State.discard]
    split
    · nofun
    · cases x <;> nofun
  | otherFeed b v => simp only [doMove, State.otherFeed]; split <;> nofun
  | run => exact agentStep_ne_fault hs
  | dispatch i =>
    simp only [doMove]
    split
    · exact execIrqBody_ne_fault
    · nofun
  | dispatchInFrame i =>
    simp only [doMove]
    split
    · exact State.dispatchInside_ne_fault
    · nofun

theorem step_ne_fault {s : State} (hs : s.FeedOffInv) : step s ≠ .fault .eraWhileFeedOn := by
  have ht : turn s ≠ .fault .eraWhileFeedOn := by
    unfold turn
    split
    · exact freeStep_ne_fault hs
    · split
      · exact freeStep_ne_fault hs
      · exact doMove_ne_fault (hs.of_same rfl rfl fun _ => rfl)
  unfold step tickOutcome
  split
  · nofun
  · rename_i f hf
    rintro ⟨⟩
    exact ht hf
  · nofun

/-! The feeds (R48 (d)). -/

/-- A body clears the status flags and reads the packet: it changes no feed. -/
theorem execIrqBody_feed {i : Nat} {s t : State} (hv : s.cfg.valid = true) (h : exec (.irqBody i) s = .next t)
    (b : Binding) : (t.sensor b).feed = (s.sensor b).feed := by
  obtain ⟨-, ⟨-, -, rfl⟩ | ⟨-, rfl⟩ | ⟨-, rfl⟩ | ⟨-, rfl⟩ | ⟨-, rfl⟩ | ⟨-, rfl⟩⟩ := execIrqBody_next h
  · rfl
  · have hr := s.memRead_feed (s.vec i).rbind b s.cfg.regPktBase (packetLen (s.vec i).mode)
    unfold State.bodyRead
    dsimp only
    split
    · exact hr
    · exact hr
  · rfl
  · obtain ⟨hsf, -⟩ := Config.valid_regs hv
    have hw := State.memWrite_feed (b := (s.vec i).wbind) s.cfg.statusClear hv hsf b
    unfold State.bodyClear
    dsimp only
    split
    · exact hw
    · exact hw
  · rfl
  · rfl

/-- A new sample raises a line and changes no feed (R31, R34). -/
theorem State.deviceSample_feed (s : State) (b : Binding) (bytes : List Byte) (b' : Binding) :
    ((s.deviceSample b bytes).sensor b').feed = (s.sensor b').feed := by
  have hline : ∀ u : State, ((u.raiseLine b).sensor b').feed = (u.sensor b').feed := by
    intro u
    have hset : ((u.setSensor b { u.sensor b with line := true }).sensor b').feed = (u.sensor b').feed := by
      by_cases hk : sensorKey b' = sensorKey b
      · rw [State.sensor_congr _ hk, State.sensor_congr u hk, State.sensor_setSensor_same]
      · rw [State.sensor_setSensor_other _ _ hk]
    unfold State.raiseLine
    split
    · rfl
    · dsimp only
      split
      · exact hset
      · exact hset
  unfold State.deviceSample
  split
  · rw [hline, State.setWindow_sensor, storePacket_sensor]
  · rfl

/-! Every step (R93). -/

/-- The operation in progress is `i`, or none is. -/
def State.OpIs (i : Instr) (s : State) : Prop := s.fg.op = some i ∨ s.fg.op = none

theorem keptOnTable_opIs (i : Instr) : KeptOnTable i (State.OpIs i) where
  memWrite s b reg v h := by rw [State.OpIs, s.memWrite_fg b reg v]; exact h
  memRead s b reg n h := by rw [State.OpIs, s.memRead_fg b reg n]; exact h
  goes _ _ _ _ _ := .inl rfl
  setIdle _ _ := .inr rfl
  ret _ _ _ := .inr rfl
  setReady _ _ _ h := h
  cover _ _ h := h
  setFn _ _ h := h
  sensorCommand s b cmd h := by rw [State.OpIs, s.sensorCommand_fg b cmd]; exact h
  deviceStore _ _ _ _ h := h
  completeAccess s b h := by rw [State.OpIs, s.completeAccess_fg b]; exact h
  setWindow _ _ _ _ h := h
  setSlot _ _ _ h := h
  setPending _ _ _ h := h
  setIe _ _ h := h

/-- An instruction of the foreground establishes `FeedOffInv`: it returns, or it goes on with its sensor's feed off. -/
theorem exec_feedOffInv {i : Instr} {s t : State} (hv : s.cfg.valid = true) (hp : ∀ b, i ≠ .eraPoll b)
    (hb : ∀ k, i ≠ .irqBody k) (ho : s.OpIs i) (h : exec i s = .next t) : t.FeedOffInv := by
  have ht : t.OpIs i := (keptOnTable_opIs i).exec h hb ho
  have hop : ∀ {j}, t.fg.op = some j → j = i := by
    intro j hj
    obtain e | e := ht
    · exact Option.some.inj (hj.symm.trans e)
    · rw [e] at hj; cases hj
  refine ⟨(exec_cfg h).symm ▸ hv, fun b e => hp b (hop e).symm, fun j b hj hbind _ _ => ?_⟩
  obtain rfl := hop hj
  obtain hfg | hoff := exec_era_feed hv hbind h
  · rw [hfg] at hj; cases hj
  · exact hoff

theorem irqBody_feedOffInv {i : Nat} {s t : State} (hs : s.FeedOffInv) (h : exec (.irqBody i) s = .next t) :
    t.FeedOffInv := hs.of_same (exec_cfg h) (execIrqBody_fg h) (execIrqBody_feed hs.1 h)

theorem Ran.feedOffInv {s t : State} (h : Ran s t) (hs : s.FeedOffInv) : t.FeedOffInv := by
  have hcfg := hs.1
  cases h with
  | body _ h => exact irqBody_feedOffInv hs h
  | @goesOn i _ _ ho h =>
    by_cases hb : ∃ k, i = .irqBody k
    · obtain ⟨k, rfl⟩ := hb
      exact irqBody_feedOffInv hs h
    · exact exec_feedOffInv hcfg (fun b e => hs.2.1 b (e ▸ ho)) (fun k e => hb ⟨k, e⟩) (.inl ho) h
  | @starts w i _ _ hn _ hd h =>
    have hs' : s.takePort.FeedOffInv := hs
    by_cases hb : ∃ k, i = .irqBody k
    · obtain ⟨k, rfl⟩ := hb
      exact irqBody_feedOffInv hs' h
    · exact exec_feedOffInv (s := s.takePort) hcfg (fun b e => decode_ne_eraPoll (e ▸ hd)) (fun k e => hb ⟨k, e⟩)
        (.inr hn) h
  | waits => exact hs

/-- No move but a write of the feed byte by another agent turns a feed on. -/
theorem Happened.feedOffInv {s t : State} {m : Move} (h : Happened s m t) (hm : ∀ b v, m ≠ .otherFeed b v)
    (hs : s.FeedOffInv) : t.FeedOffInv := by
  cases h with
  | present w _ | setIE v _ | await _ | dispatch i | dispatchInFrame i | pulse p => exact hs
  | writeMode r md _ h => rw [(State.writeMode_next h).2]; exact hs
  | load r f _ h => rw [State.load_next h]; exact hs
  | discard x _ h =>
    obtain ⟨-, rfl | ⟨r, -, rfl⟩⟩ := State.discard_next h
    · exact hs
    · exact hs
  | otherFeed b v _ => exact absurd rfl (hm b v)
  | sample b bytes =>
    exact hs.of_same (State.deviceSample_keeps (·.cfg) (by simp) (by simp) (by simp) s b bytes)
      (State.deviceSample_keeps (·.fg) (by simp) (by simp) (by simp) s b bytes) (s.deviceSample_feed b bytes)
  | powerCycle => exact State.resetWith_feedOffInv hs.1

theorem step_feedOffInv {s t : State} (hs : s.FeedOffInv) (h : step s = .next t)
    (hm : ∀ b v, s.moves.head? ≠ some (.otherFeed b v)) : t.FeedOffInv := by
  obtain ⟨u, rfl, ⟨ms, q, hr⟩ | ⟨m, ms, he, -, hh⟩⟩ := step_cases h
  · exact hr.feedOffInv hs
  · exact hh.feedOffInv (fun b v e => hm b v (by rw [he, e]; rfl)) hs

/-! Another agent turns the feed on (R93, R165). -/

theorem exec_eraRead_feedOn {s : State} {b : Binding} {f : Byte} {addr : EraAddr} {n : Byte} {p : Phase}
    (h : StandsAt s (.eraRead b f addr n) p) (hp : p ∈ [.addrHi, .addrLo, .ctrl, .poll, .value, .clear])
    (hon : (s.sensor b).feed = true) : exec (.eraRead b f addr n) s = .fault .eraWhileFeedOn := by
  rw [exec_eraRead_at h]
  simp only [List.mem_cons, List.not_mem_nil, or_false] at hp
  obtain rfl | rfl | rfl | rfl | rfl | rfl := hp <;> exact State.eraGuard_on _ hon

theorem exec_eraWrite_feedOn {s : State} {b : Binding} {f : Byte} {addr : EraAddr} {v : Byte} {p : Phase}
    (h : StandsAt s (.eraWrite b f addr v) p) (hp : p ∈ [.valueW, .addrHi, .addrLo, .ctrl, .poll, .clear])
    (hon : (s.sensor b).feed = true) : exec (.eraWrite b f addr v) s = .fault .eraWhileFeedOn := by
  rw [exec_eraWrite_at h]
  simp only [List.mem_cons, List.not_mem_nil, or_false] at hp
  obtain rfl | rfl | rfl | rfl | rfl | rfl := hp <;> exact State.eraGuard_on _ hon

/-- The move `otherFeed`, where R178 does not refuse it, is a store of the feed byte, which waits for nothing. -/
theorem step_otherFeed {s : State} {b : Binding} {v : Byte} {ms : List Move} (hm : s.moves = .otherFeed b v :: ms)
    (hc : s.modeConflict b v = false) :
    step s = .next (({ s with moves := ms }).deviceStore b s.cfg.regFeed1 v).tick := by
  have hr : ({ s with moves := ms } : State).feedRefusal b v = none := State.feedRefusal_none.mpr hc
  simp [step, turn, hm, State.mustWait, Move.waitsForReturn, Move.isHost, doMove, State.otherFeed, hr, tickOutcome]

/-- A later frame of an access in progress is the fault while the feed of its sensor is on (R165). -/
theorem step_eraFrame_feedOn {s : State} {i : Instr} {b : Binding} {p : Phase} (hn : s.ForegroundNext)
    (h : StandsAt s i p) (hon : (s.sensor b).feed = true)
    (hi : (∃ f addr n, i = .eraRead b f addr n ∧ p ∈ [.addrHi, .addrLo, .ctrl, .poll, .value, .clear]) ∨
      ∃ f addr d, i = .eraWrite b f addr d ∧ p ∈ [.valueW, .addrHi, .addrLo, .ctrl, .poll, .clear]) :
    step s = .fault .eraWhileFeedOn := by
  obtain ⟨-, ho, -⟩ := id h
  rw [step_of_foregroundNext hn, foregroundStep_of_op ho]
  obtain ⟨f, addr, n, rfl, hp⟩ | ⟨f, addr, d, rfl, hp⟩ := hi
  · rw [exec_eraRead_feedOn h hp hon]; rfl
  · rw [exec_eraWrite_feedOn h hp hon]; rfl

/-- Settles O30: an instruction returns or goes on with its feed off, no other move but `otherFeed` turns one on, and after
that one the access in progress meets the guard. -/
theorem stepKeepsFeedOff : Obligations.StepKeepsFeedOff := by
  unfold Obligations.StepKeepsFeedOff
  refine ⟨fun s hs => ⟨step_ne_fault hs, fun t h => step_feedOffInv hs h⟩,
    fun s i b v p hm hrun hcand hc hv hst hi => ?_⟩
  obtain ⟨hr, ho, hp⟩ := hst
  have hon : ((({ s with moves := [] } : State).deviceStore b s.cfg.regFeed1 v).sensor b).feed = true := by
    rw [State.deviceStore_feed, if_pos ⟨rfl, rfl⟩]
    simpa [feedEnabled] using hv
  exact ⟨_, step_otherFeed hm hc, hon, step_eraFrame_feedOn ⟨rfl, hrun, hcand⟩
    ⟨runnable_congr hr rfl ⟨rfl, rfl, rfl, rfl, rfl, rfl⟩, ho, hp⟩ hon hi⟩

end Sys2Proof.Machine
end

section
/-! PROOFS. REGISTER line by line (R105 to R109): the table errors (O31), the choice and the claim of a slot (O32), the
attach and the three frames (O33), and a failed frame (O34). -/

namespace Sys2Proof.Machine

open Sys2Proof.Claims

section
variable {s : State} {pin : Pin} {b : Binding} {f : Byte} {r : StorageRef}

theorem exec_register_idle (h : Idle s (.register pin b f r)) :
    exec (.register pin b f r) s = registerLine pin b f r s 1 :=
  State.accept_idle (Laws.Admission.register pin b f r) h nofun _

theorem exec_register_at {k : Nat} (h : StandsAt s (.register pin b f r) (.line k)) :
    exec (.register pin b f r) s = registerLine pin b f r s k :=
  State.accept_standsAt (Laws.Admission.register pin b f r) h nofun _

/-- R178 refuses no REGISTER before its claim, so that it stays runnable while the parameters stay. -/
theorem runnable_register_congr {t : State} (h : Runnable s (.register pin b f r)) (hc : t.cfg = s.cfg) :
    Runnable t (.register pin b f r) := by
  obtain ⟨hv, hw, -⟩ := h
  exact ⟨hc ▸ hv, hc ▸ hw, rfl⟩

/-! The table errors (R106, R107). -/

/-- A return touches nothing but the sequencer and the answer. -/
theorem State.ret_leaves (s : State) (x : Result) :
    Returned (s.ret x) x ∧ TableSame s (s.ret x) ∧ OutsideSame s (s.ret x) ∧ BusSame s (s.ret x) := by
  simp [Returned, TableSame, OutsideSame, BusSame]

/-- With every slot claimed there is no free one (R107). -/
theorem State.freeSlot_none (h : ∀ x ∈ s.slots, x.claimed = true) : s.freeSlot = none :=
  List.findIdx?_eq_none_iff.mpr fun x hx => by simp [h x hx]

/-- The free slot is the unclaimed one of least index (R107). -/
theorem State.freeSlot_least {j : Nat} (hj : j < s.slots.length) (hu : (s.slot j).claimed = false)
    (hl : ∀ k, k < j → (s.slot k).claimed = true) : s.freeSlot = some j := by
  refine List.findIdx?_eq_some_iff_getElem.mpr ⟨hj, ?_, fun k hk => ?_⟩
  · simpa [State.slot, List.getD, hj] using hu
  · have hlt : k < s.slots.length := hk.trans hj
    simpa [State.slot, List.getD, hlt] using hl k hk

theorem exec_register_incapable (h : Idle s (.register pin b f r)) (hp : irqCapable s.cfg pin = false) :
    exec (.register pin b f r) s = .next (s.ret { st := .notAnInterruptPin }) := by
  rw [exec_register_idle h, registerLine, if_neg (by simp [hp])]
  rfl

theorem exec_register_full (h : StandsAt s (.register pin b f r) (.line 2))
    (hfull : ∀ x ∈ s.slots, x.claimed = true) :
    exec (.register pin b f r) s = .next (s.ret { st := .outOfSlots }) := by
  simp only [exec_register_at h, registerLine, State.freeSlot_none hfull]
  rfl

/-- A capable pin passes line 1, which touches the sequencer only. -/
theorem exec_register_checksPin (h : Idle s (.register pin b f r)) (hp : irqCapable s.cfg pin = true) :
    exec (.register pin b f r) s = .next ((s.setFg Fg.idle).goto (.register pin b f r) (.line 2)) := by
  rw [exec_register_idle h, registerLine, if_pos hp]

/-- Then REGISTER stands at line 2. -/
theorem standsAt_line2 (h : Idle s (.register pin b f r)) :
    StandsAt ((s.setFg Fg.idle).goto (.register pin b f r) (.line 2)).tick (.register pin b f r) (.line 2) :=
  ⟨runnable_register_congr h.1 rfl, rfl, rfl⟩

/-! The claim and the attach (R107, R108). -/

theorem exec_register_chooses {j : Nat} (h : StandsAt s (.register pin b f r) (.line 2)) (hj : s.freeSlot = some j) :
    exec (.register pin b f r) s =
      .next ((s.setFg { s.fg with slot := j }).goto (.register pin b f r) (.line 3)) := by
  simp only [exec_register_at h, registerLine, hj]

theorem exec_register_claims (h : StandsAt s (.register pin b f r) (.line 3))
    (hc : s.claimRefusal pin b f r = none) :
    exec (.register pin b f r) s = .next ((s.claim s.fg.slot b r).goto (.register pin b f r) (.line 4)) := by
  simp only [exec_register_at h, registerLine, hc]

/-- The slot the claim binds, and the others (R105). -/
theorem State.claim_slot (j : Nat) (hj : j < s.slots.length) (b : Binding) (r : StorageRef) :
    (s.claim j b r).slot j = { s.slot j with
      claimed := true, busAddress := b.busAddress, busSpeed := b.busSpeed, rapRead := b.tp, rapWrite := b.tp,
      sampleRef := r, ready := false } := s.slot_setSlot_same j _ hj

theorem State.claim_slot_other {j k : Nat} (hk : k ≠ j) (b : Binding) (r : StorageRef) :
    (s.claim j b r).slot k = s.slot k := s.slot_setSlot_other _ hk

theorem exec_register_attaches (h : StandsAt s (.register pin b f r) (.line 4)) :
    exec (.register pin b f r) s = .next ((s.attach s.fg.slot pin).goto (.register pin b f r) (.line 5)) :=
  exec_register_at h

/-! The frames and the return (R109). -/

/-- Line `k` is one write frame of byte `v` to register `reg`, and line `k + 1` comes after it. -/
def RegisterFrame (pin : Pin) (b : Binding) (f : Byte) (r : StorageRef) (s : State) (k : Nat) (reg : Reg) (v : Byte) :
    Prop :=
  registerLine pin b f r s k =
    .next (s.writeThen b reg v fun t => t.goto (.register pin b f r) (.line (k + 1)))

theorem registerFrame_line5 : RegisterFrame pin b f r s 5 s.cfg.regFeed1 (feedOffByte s.cfg f) := rfl

theorem registerFrame_line6 : RegisterFrame pin b f r s 6 s.cfg.regStatus s.cfg.statusClear := rfl

theorem registerFrame_line7 : RegisterFrame pin b f r s 7 s.cfg.regFeed1 (feedOnByte s.cfg f) := rfl

/-- Lines 5, 6 and 7 are such frames. -/
theorem registerFrame_of_line {k : Nat} (h5 : 5 ≤ k) (h7 : k ≤ 7) : ∃ reg v, RegisterFrame pin b f r s k reg v := by
  obtain rfl | rfl | rfl : k = 5 ∨ k = 6 ∨ k = 7 := by omega
  · exact ⟨_, _, registerFrame_line5⟩
  · exact ⟨_, _, registerFrame_line6⟩
  · exact ⟨_, _, registerFrame_line7⟩

/-- The frame leaves the table and the outside world alone, done or failed (R18). -/
theorem State.writeThen_goto_leaves (s : State) (b : Binding) (reg : Reg) (v : Byte) (i : Instr) (p : Phase) :
    TableSame s (s.writeThen b reg v fun t => t.goto i p) ∧
      OutsideSame s (s.writeThen b reg v fun t => t.goto i p) := by
  obtain ⟨htab, hout, -⟩ := (s.sequencerMoved_writeThen b reg v fun u => u.sequencerMoved_goto i p).leaves
    (s.memWrite_leaves b reg v)
  exact ⟨htab, hout⟩

/-- A frame that is done leaves the table and the chosen slot alone, and REGISTER goes on. -/
theorem exec_register_frame {k : Nat} {reg : Reg} {v : Byte} (hk : RegisterFrame pin b f r s k reg v)
    (h : StandsAt s (.register pin b f r) (.line k)) (hf : s.answer.fail = false) :
    ∃ t, exec (.register pin b f r) s = .next t ∧ GoesOn s t (.register pin b f r) (.line (k + 1)) ∧
      t.fg.slot = s.fg.slot ∧ WriteFrame s t b reg v ∧ TableSame s t ∧ OutsideSame s t := by
  have he := (exec_register_at h).trans hk
  obtain ⟨t, het, hg, hw, hfg⟩ := exec_writes_goesOn id h.1.1 hf he
  obtain rfl := Host.Outcome.next.inj (he.symm.trans het)
  exact ⟨_, he, hg, by rw [hfg]; rfl, hw, s.writeThen_goto_leaves b reg v _ _⟩

theorem exec_register_returns (h : StandsAt s (.register pin b f r) (.line 8)) :
    exec (.register pin b f r) s = .next (s.ret { st := .ok, rslot := some s.fg.slot }) :=
  exec_register_at h

end

/-- Settles O31: either error is a return from a state whose block and sensors are those before. -/
theorem tableErrorsChangeNothing : Obligations.TableErrorsChangeNothing := by
  unfold Obligations.TableErrorsChangeNothing
  refine fun s pin b f r => ⟨fun h hp => ?_, fun h hfull => ?_, fun h hp hfull => ?_⟩
  · exact ⟨_, exec_register_incapable h hp, s.ret_leaves _⟩
  · exact ⟨_, exec_register_full h hfull, s.ret_leaves _⟩
  · have h1 := execRun_succ (k := 0) (s₀ := s) rfl (exec_register_checksPin h hp)
    have h2 := execRun_succ h1 (exec_register_full (standsAt_line2 h) hfull)
    exact ⟨_, h2, ⟨rfl, rfl⟩, ⟨rfl, rfl, rfl, rfl, rfl, rfl⟩, rfl, rfl, rfl⟩

/-- Settles O32: line 2 chooses the free slot, and line 3 writes it where no duty refuses the claim. -/
theorem registerClaimsTheLeastFreeSlot : Obligations.RegisterClaimsTheLeastFreeSlot := by
  unfold Obligations.RegisterClaimsTheLeastFreeSlot
  refine fun s pin b f r => ⟨fun j h hj hu hl => ?_, fun h hj hpin hsto htag hmode hconf hfeed => ?_⟩
  · exact ⟨_, exec_register_chooses h (State.freeSlot_least hj hu hl), ⟨rfl, rfl, rfl⟩, rfl,
      ⟨rfl, rfl, rfl, rfl, rfl, rfl⟩, ⟨rfl, rfl, rfl, rfl, rfl, rfl, rfl⟩, rfl, rfl, rfl⟩
  · have hc := State.claimRefusal_none.mpr ⟨hpin, hsto, htag, hmode, hconf, hfeed⟩
    exact ⟨_, exec_register_claims h hc, ⟨rfl, rfl, rfl⟩, State.claim_slot _ hj b r,
      fun k hk => State.claim_slot_other hk b r, rfl, rfl, rfl, rfl, rfl, ⟨rfl, rfl, rfl, rfl, rfl, rfl, rfl⟩,
      rfl, rfl, rfl⟩

/-- Settles O33, line by line. -/
theorem registerAttachesThenFeeds : Obligations.RegisterAttachesThenFeeds := by
  unfold Obligations.RegisterAttachesThenFeeds
  refine fun s pin b f r => ⟨fun h hj => ?_, fun hf => ⟨fun h => ?_, fun h => ?_, fun h => ?_⟩, fun h => ?_⟩
  · exact ⟨_, exec_register_attaches h, ⟨rfl, rfl, rfl⟩, s.slot_setSlot_same _ _ hj,
      fun k hk => s.slot_setSlot_other _ hk, rfl, rfl, rfl, rfl⟩
  · obtain ⟨t, he, hg, -, hw, htab, -⟩ := exec_register_frame registerFrame_line5 h hf
    exact ⟨t, he, hg, hw, htab⟩
  · obtain ⟨t, he, hg, -, hw, htab, -⟩ := exec_register_frame registerFrame_line6 h hf
    exact ⟨t, he, hg, hw, htab⟩
  · obtain ⟨t, he, hg, -, hw, htab, -⟩ := exec_register_frame registerFrame_line7 h hf
    obtain ⟨-, -, -, hfeed, -⟩ := id hw
    exact ⟨t, he, hg, hw, htab, by rw [hfeed, if_pos rfl]; exact (Config.valid_feed h.1.1 f).2⟩
  · exact ⟨_, exec_register_returns h, s.ret_leaves _⟩

/-- Settles O34: a failed frame returns its error from a state whose table is that before. -/
theorem registerFailureKeepsTheClaim : Obligations.RegisterFailureKeepsTheClaim := by
  unfold Obligations.RegisterFailureKeepsTheClaim
  intro s pin b f r k h h5 h7 hf
  obtain ⟨reg, v, hk⟩ : ∃ reg v, RegisterFrame pin b f r s k reg v := registerFrame_of_line h5 h7
  obtain ⟨hret, htr⟩ := State.writeThen_failed_returns b reg v _ hf
  exact ⟨_, (exec_register_at h).trans hk, hret, (s.writeThen_goto_leaves b reg v _ _).1, reg, v, htr⟩

end Sys2Proof.Machine
end

section
/-! PROOFS. Whole runs of the table operations: REGISTER in its eight lines (O36), UNREGISTER in its three (O37) and what
an edge does after it (O38). -/

namespace Sys2Proof.Machine

open Sys2Proof.Claims

/-- A run of `m` steps and then one of `n` are a run of `m + n`. -/
theorem execRun_add {i : Instr} {m n : Nat} {s u t : State} (hm : execRun i m s = some u)
    (hn : execRun i n u = some t) : execRun i (m + n) s = some t := by
  induction m generalizing s with
  | zero => obtain rfl := Option.some.inj hm; rwa [Nat.zero_add]
  | succ m ih =>
    rw [Nat.succ_add]
    simp only [execRun] at hm ⊢
    split at hm
    · exact ih hm
    · cases hm
    · cases hm

/-- One more step that leaves the table and the outside world alone. -/
theorem EraRan.step {i : Instr} {s₀ s t : State} {k : Nat} (h : EraRan i s₀ k s) (he : exec i s = .next t)
    (htab : TableSame s t) (hout : OutsideSame s t) : EraRan i s₀ (k + 1) t.tick := by
  obtain ⟨hc, -, ha, -⟩ := hout
  obtain ⟨h1, h2, h3, h4, h5, h6⟩ := htab
  obtain ⟨g1, g2, g3, g4, g5, g6⟩ := h.table
  refine ⟨execRun_succ h.run he, hc.trans h.cfg, ?_,
    h1.trans g1, h2.trans g2, h3.trans g3, h4.trans g4, h5.trans g5, h6.trans g6⟩
  rw [State.tick_answers, ha, h.answers, List.tail_drop]

/-! REGISTER (R105). -/

section
variable {s : State} {pin : Pin} {b : Binding} {f : Byte} {r : StorageRef} {j : Nat}

/-- What goes on in a phase stands there in its next step. -/
theorem standsAt_register_tick (t : State) {p : Phase} (h : Runnable s (.register pin b f r)) (hc : t.cfg = s.cfg)
    (hg : GoesOn s t (.register pin b f r) p) : StandsAt t.tick (.register pin b f r) p := by
  obtain ⟨ho, hp, -⟩ := hg
  exact ⟨runnable_register_congr h hc, ho, hp⟩

/-- Lines 1 and 2 choose the least free slot and change nothing but the sequencer (R106, R107). -/
theorem register_chooses (h : Idle s (.register pin b f r)) (hcap : irqCapable s.cfg pin = true)
    (hfree : s.freeSlot = some j) :
    ∃ u, EraRan (.register pin b f r) s 2 u ∧ StandsAt u (.register pin b f r) (.line 3) ∧ u.fg.slot = j ∧
      BusSame s u := by
  have r1 := (EraRan.start (.register pin b f r) s).step (exec_register_checksPin h hcap)
    ⟨rfl, rfl, rfl, rfl, rfl, rfl⟩ ⟨rfl, rfl, rfl, rfl, rfl, rfl, rfl⟩
  have r2 := r1.step (exec_register_chooses (standsAt_line2 h) hfree)
    ⟨rfl, rfl, rfl, rfl, rfl, rfl⟩ ⟨rfl, rfl, rfl, rfl, rfl, rfl, rfl⟩
  exact ⟨_, r2, ⟨runnable_register_congr h.1 r2.cfg, rfl, rfl⟩, rfl, rfl, rfl, rfl⟩

/-- Lines 3 and 4 bind the chosen slot and attach it, and put no frame on any bus (R107, R108). -/
theorem register_attaches (h : StandsAt s (.register pin b f r) (.line 3)) (hj : s.fg.slot < s.slots.length)
    (hc : s.claimRefusal pin b f r = none) :
    ∃ u, execRun (.register pin b f r) 2 s = some u ∧ StandsAt u (.register pin b f r) (.line 5) ∧
      u.fg.slot = s.fg.slot ∧
      u.slot s.fg.slot = { s.slot s.fg.slot with
        claimed := true, busAddress := b.busAddress, busSpeed := b.busSpeed, rapRead := b.tp, rapWrite := b.tp,
        sampleRef := r, ready := false, pin := pin, attached := true } ∧
      (∀ k, k ≠ s.fg.slot → u.slot k = s.slot k) ∧ u.cfg = s.cfg ∧ u.pending = s.pending ∧ u.ie = s.ie ∧
      u.trace = s.trace ∧ u.answers = s.answers.drop 2 := by
  have h3 := execRun_succ (k := 0) (s₀ := s) rfl (exec_register_claims h hc)
  have h4 := execRun_succ h3 (exec_register_attaches ⟨runnable_register_congr h.1 rfl, rfl, rfl⟩)
  refine ⟨_, h4, ⟨runnable_register_congr h.1 rfl, rfl, rfl⟩, rfl, ?_, fun k hk => ?_, rfl, rfl, rfl, rfl, ?_⟩
  · refine ((s.claim s.fg.slot b r).slot_setSlot_same s.fg.slot _ (by simpa using hj)).trans ?_
    exact congrArg (fun x : Slot => { x with pin := pin, attached := true }) (State.claim_slot s.fg.slot hj b r)
  · exact ((s.claim s.fg.slot b r).slot_setSlot_other _ hk).trans (State.claim_slot_other hk b r)
  · show (s.answers.drop 0).tail.tail = _
    rw [List.tail_drop, List.tail_drop]

/-- Lines 5 to 8 send the three frames and return the slot, and leave the table alone (R109). -/
theorem register_feeds (h : StandsAt s (.register pin b f r) (.line 5)) (hn : NoFailure 4 s) :
    ∃ t, execRun (.register pin b f r) 4 s = some t ∧ Returned t { st := .ok, rslot := some s.fg.slot } ∧
      TableSame s t ∧
      t.trace = .write b s.cfg.regFeed1 (feedOnByte s.cfg f) :: .write b s.cfg.regStatus s.cfg.statusClear ::
        .write b s.cfg.regFeed1 (feedOffByte s.cfg f) :: s.trace ∧
      (t.sensor b).feed = true := by
  have r0 := EraRan.start (.register pin b f r) s
  obtain ⟨t5, he5, hg5, hj5, ⟨htr5, -⟩, htab5, hout5⟩ :=
    exec_register_frame registerFrame_line5 h (r0.noFailure hn (by omega))
  have r5 := r0.step he5 htab5 hout5
  have h6 := standsAt_register_tick t5 h.1 r5.cfg hg5
  obtain ⟨t6, he6, hg6, hj6, ⟨htr6, -⟩, htab6, hout6⟩ :=
    exec_register_frame registerFrame_line6 h6 (r5.noFailure hn (by omega))
  have r6 := r5.step he6 htab6 hout6
  have h7 := standsAt_register_tick t6 h6.1 hout6.1 hg6
  obtain ⟨t7, he7, hg7, hj7, ⟨htr7, -, -, hfeed, -⟩, htab7, hout7⟩ :=
    exec_register_frame registerFrame_line7 h7 (r6.noFailure hn (by omega))
  have r7 := r6.step he7 htab7 hout7
  have h8 := standsAt_register_tick t7 h7.1 hout7.1 hg7
  obtain ⟨hret, htab8, hout8, -, hsens, htr8⟩ := t7.tick.ret_leaves { st := .ok, rslot := some t7.tick.fg.slot }
  have r8 := r7.step (exec_register_returns h8) htab8 hout8
  have hslot : t7.tick.fg.slot = s.fg.slot := hj7.trans (hj6.trans hj5)
  refine ⟨_, r8.run, hslot ▸ hret, r8.table, ?_, ?_⟩
  · refine htr8.trans (htr7.trans ?_)
    rw [r6.cfg, State.tick_trace, htr6, r5.cfg, State.tick_trace, htr5]
  · exact hfeed.trans ((if_pos rfl).trans (Config.valid_feed h7.1.1 f).2)

end

/-- Settles O36: two lines choose the slot, two bind and attach it, four feed and return. -/
theorem registerCompletes : Obligations.RegisterCompletes := by
  unfold Obligations.RegisterCompletes
  intro s pin b f r j h hcap hj hu hl hpin hsto htag hmode hconf hfeed hn
  obtain ⟨u, hrun, hst, rfl, hmem, -, htr⟩ := register_chooses h hcap (State.freeSlot_least hj hu hl)
  obtain ⟨hs, -, hp, hie, hsm, -⟩ := hrun.table
  have hclaim : u.claimRefusal pin b f r = none := by
    simp only [State.claimRefusal_none, State.window, State.byteAt, State.sample,
      State.modeConflict_congr hrun.cfg hs hsm, hrun.cfg, hs, hsm, hmem]
    exact ⟨hpin, hsto, htag, hmode, hconf, hfeed⟩
  obtain ⟨v, hrun', hst', hslot, hself, hothers, hcfg, hpend', hie', htr', hans⟩ :=
    register_attaches hst (hs ▸ hj) hclaim
  obtain ⟨t, hrun'', hret, ⟨hs'', -, hpend'', hie'', -⟩, htr'', hfeed''⟩ :=
    register_feeds hst' (noFailure_drop (k := 4) hn (by omega) (by rw [hans, hrun.answers, List.drop_drop]))
  have hu : ∀ k, u.slot k = s.slot k := fun k => by simp [State.slot, hs]
  have ht : ∀ k, t.slot k = v.slot k := fun k => by simp [State.slot, hs'']
  rw [hslot] at hret
  rw [hcfg, hrun.cfg, htr', htr] at htr''
  exact ⟨t, execRun_add (execRun_add hrun.run hrun') hrun'', hret, by rw [ht, hself, hu],
    fun k hk => by rw [ht, hothers k hk, hu], hpend''.trans (hpend'.trans hp), hie''.trans (hie'.trans hie), htr'',
    hfeed''⟩

/-! UNREGISTER (R110). -/

/-- A slot operand is within its bounds (R69). -/
theorem runnable_slot_lt {s : State} {j : Instr} {i : Nat} (hw : j.wf s.cfg = decide (i < s.cfg.nSlots))
    (h : Runnable s j) : i < s.cfg.nSlots := by
  obtain ⟨-, hwf, -⟩ := h
  simpa [hw] using hwf

/-- Within those bounds it names a slot of the table (R11). -/
theorem State.Sized.lt_slots {s : State} (hz : s.Sized) {i : Nat} (h : i < s.cfg.nSlots) : i < s.slots.length := by
  obtain ⟨-, hn, -, -⟩ := hz
  rwa [hn]

theorem list_set_getD_self {α : Type} (l : List α) (i : Nat) (d : α) : l.set i (l.getD i d) = l := by
  by_cases h : i < l.length
  · rw [List.getD_eq_getElem l d h, List.set_getElem_self]
  · exact List.set_eq_of_length_le (Nat.le_of_not_lt h)

section
variable {s : State} {i : Nat}

theorem exec_unregister_idle (h : Idle s (.unregister i)) :
    exec (.unregister i) s = .next (((s.detach i).setFg Fg.idle).goto (.unregister i) (.line 2)) :=
  State.accept_idle (Laws.Admission.unregister i) h nofun _

theorem exec_unregister_at {k : Nat} (h : StandsAt s (.unregister i) (.line k)) :
    exec (.unregister i) s = unregisterLine i s k :=
  State.accept_standsAt (Laws.Admission.unregister i) h nofun _

/-- Where a latch is set only for an attached slot, line 1 detaches the slot and clears its latch, whether or not it was
attached (R110). -/
theorem State.detach_eq (h : (s.slot i).attached = false → s.isPending i = false) :
    s.detach i = (s.setAttached i false).setPending i false := by
  unfold State.detach
  split
  · rfl
  · rename_i ha
    have ha : (s.slot i).attached = false := by simpa using ha
    have hslots : s.slots.set i { s.slot i with attached := false } = s.slots := by
      rw [← ha]
      exact list_set_getD_self s.slots i Slot.reset
    have hpend : s.pending.set i false = s.pending := by
      rw [← h ha]
      exact list_set_getD_self s.pending i false
    simp [State.setAttached, State.setSlot, State.setPending, hslots, hpend]

/-- The three lines of UNREGISTER: they write the slot and its latch and nothing else but the sequencer (R110). -/
theorem unregister_runs (h : Idle s (.unregister i)) (hp : (s.slot i).attached = false → s.isPending i = false) :
    ∃ t, execRun (.unregister i) 3 s = some t ∧ Returned t { st := .ok } ∧
      t.slots = ((s.setAttached i false).setClaimed i false).slots ∧ t.pending = (s.setPending i false).pending ∧
      t.vecs = s.vecs ∧ t.ie = s.ie ∧ t.samples = s.samples ∧ BusSame s t := by
  have he := exec_unregister_idle h
  rw [State.detach_eq hp] at he
  have h1 := execRun_succ (k := 0) (s₀ := s) rfl he
  have h2 := execRun_succ h1 (exec_unregister_at (k := 2) ⟨h.1, rfl, rfl⟩)
  have h3 := execRun_succ h2 (exec_unregister_at (k := 3) ⟨h.1, rfl, rfl⟩)
  exact ⟨_, h3, ⟨rfl, rfl⟩, rfl, rfl, rfl, rfl, rfl, rfl, rfl, rfl⟩

end

/-- Settles O37: the two writes of the slot are those of `attached` and `claimed`. -/
theorem unregisterReleases : Obligations.UnregisterReleases := by
  unfold Obligations.UnregisterReleases
  intro s i h hz hp
  obtain ⟨t, hrun, hret, hslots, hpend, hrest⟩ := unregister_runs h hp
  have hi : i < s.slots.length := hz.lt_slots (runnable_slot_lt rfl h.1)
  have ht : ∀ k, t.slot k = ((s.setAttached i false).setClaimed i false).slot k := fun k => by
    rw [State.slot, hslots]; rfl
  have hq : ∀ k, t.isPending k = (s.setPending i false).isPending k := fun k => by rw [State.isPending, hpend]; rfl
  refine ⟨t, hrun, hret, ?_, (hq i).trans (s.isPending_clear_same i), fun k hk => ⟨?_, ?_⟩, hrest⟩
  · rw [ht, State.setClaimed, State.slot_setSlot_same _ i _ (by simpa using hi), State.setAttached,
      State.slot_setSlot_same s i _ hi]
  · rw [ht, State.setClaimed, State.slot_setSlot_other _ _ hk, State.setAttached, State.slot_setSlot_other s _ hk]
  · rw [hq, State.isPending_setPending_other s false hk]

/-- An edge on a pin that no attached slot has sets no latch (R143, R144). -/
theorem latchEdge_of_no_pin {p : Pin} {xs : List Slot} (h : ∀ x ∈ xs, x.attached = true → x.pin ≠ p)
    (qs : List Bool) : latchEdge p xs qs = qs := by
  induction xs generalizing qs with
  | nil => rfl
  | cons x xs ih =>
    cases qs with
    | nil => rfl
    | cons q qs =>
      have hx : (x.attached && decide (x.pin = p)) = false := by
        simpa using h x List.mem_cons_self
      rw [latchEdge, hx, Bool.or_false, ih fun y hy => h y (List.mem_cons_of_mem x hy)]

theorem State.edge_of_no_pin {s : State} {p : Pin} (h : ∀ i, (s.slot i).attached = true → (s.slot i).pin ≠ p) :
    s.edge p = s := by
  have hl : ∀ x ∈ s.slots, x.attached = true → x.pin ≠ p := by
    intro x hx
    obtain ⟨i, hi⟩ := List.getElem?_of_mem hx
    have := h i
    rwa [State.slot, List.getD, hi, Option.getD_some] at this
  rw [State.edge, latchEdge_of_no_pin hl]

/-- Settles O38: the slot is detached, and no other attached slot has its pin. -/
theorem detachIsEffective : Obligations.DetachIsEffective := by
  unfold Obligations.DetachIsEffective
  rintro s t i h hz ⟨hpins, -, -⟩ ha hrun
  obtain ⟨t', hrun', -, hself, hclear, hothers, -⟩ := unregisterReleases s i h hz (by simp [ha])
  obtain rfl := Option.some.inj (hrun.symm.trans hrun')
  refine ⟨hclear, State.edge_of_no_pin fun k hk hpin => ?_⟩
  by_cases e : k = i
  · subst e
    rw [hself] at hk
    cases hk
  · rw [(hothers k e).1] at hk hpin
    exact e (hpins k i hk ha hpin)

end Sys2Proof.Machine
end

section
/-! PROOFS. The ready flag: CONSUME_READY answers it (O39), CLEAR_READY clears it (O40), and it stays set between a body
and CLEAR_READY (O41). -/

namespace Sys2Proof.Machine

open Sys2Proof.Claims

/-- CONSUME_READY covers a storage and changes nothing else (R111, R55). -/
theorem State.coverSample_eq (s : State) (i : Nat) : ∃ x, s.coverSample i = { s with samples := x } := by
  unfold State.coverSample
  split
  · exact ⟨_, rfl⟩
  · exact ⟨s.samples, rfl⟩

/-- Storages that agree but for the model's own bit `covered` are one storage under one such bit. -/
theorem Sample.eq_of_uncovered {x y : Sample} (h : { x with covered := false } = { y with covered := false }) :
    { x with covered := y.covered } = y :=
  congrArg (fun z : Sample => { z with covered := y.covered }) h

/-- Settles O39: the answer is read from the slot, and the step writes at most the model's bit `covered`. -/
theorem consumeReadyReadsTheFlag : Obligations.ConsumeReadyReadsTheFlag := by
  unfold Obligations.ConsumeReadyReadsTheFlag
  intro s i h
  have he := exec_consumeReady h
  have hsample : ∀ r, _ := congrFun (exec_apart apart_samples he nofun)
  obtain ⟨x, hx⟩ := s.coverSample_eq i
  refine ⟨_, he, fun hc => ⟨?_, rfl⟩, fun hc => ⟨?_, rfl⟩, ?_⟩
  · simp [State.readyAnswer, hc]
  · simp [State.readyAnswer, hc]
  · rw [hx] at hsample ⊢
    exact ⟨rfl, rfl, rfl, rfl, ⟨rfl, rfl, rfl, rfl, rfl, rfl, rfl⟩, ⟨rfl, rfl, rfl⟩,
      fun r => Sample.eq_of_uncovered (hsample r)⟩

/-- Settles O40: the step is the write of the flag and the return. -/
theorem clearReadyClearsTheFlag : Obligations.ClearReadyClearsTheFlag := by
  unfold Obligations.ClearReadyClearsTheFlag
  intro s i h hz
  have hi := hz.lt_slots (runnable_slot_lt rfl h.1)
  exact ⟨_, exec_clearReady h, ⟨rfl, rfl⟩, s.slot_setSlot_same i _ hi, fun k hk => s.slot_setSlot_other _ hk,
    rfl, rfl, rfl, rfl, ⟨rfl, rfl, rfl, rfl, rfl, rfl, rfl⟩, ⟨rfl, rfl, rfl⟩, rfl⟩

/-- Once an operation has returned, CONSUME_READY and CLEAR_READY of a slot of the table may start (R21, R69). -/
theorem idle_ready_of_returned {s t : State} {i : Nat} (h : Idle s (.consumeReady i)) (hc : t.cfg = s.cfg) {x : Result}
    (hr : Returned t x) : Idle t (.consumeReady i) ∧ Idle t (.clearReady i) := by
  obtain ⟨⟨hv, hw, -⟩, -⟩ := h
  obtain ⟨-, hfg⟩ := hr
  have hop : t.fg.op = none := congrArg Fg.op hfg
  rw [← hc] at hv hw
  exact ⟨⟨⟨hv, hw, rfl⟩, hop⟩, ⟨⟨hv, hw, rfl⟩, hop⟩⟩

/-- CONSUME_READY of a claimed slot whose flag is set answers true and leaves the slots. -/
theorem consumeReady_answersTrue {s : State} {i : Nat} (h : Idle s (.consumeReady i)) (hc : (s.slot i).claimed = true)
    (hr : (s.slot i).ready = true) :
    ∃ t, exec (.consumeReady i) s = .next t ∧ Returned t { st := .ok, rbool := some true } ∧ t.slots = s.slots ∧
      t.cfg = s.cfg := by
  obtain ⟨t, he, hret, -, hs, -, -, -, ⟨hcfg, -⟩, -⟩ := consumeReadyReadsTheFlag s i h
  exact ⟨t, he, hr ▸ hret hc, hs, hcfg⟩

/-- So does any number of them in a row (R114). -/
theorem execRun_consumeReady {s : State} {i : Nat} (h : Idle s (.consumeReady i)) (hc : (s.slot i).claimed = true)
    (hr : (s.slot i).ready = true) (n : Nat) :
    ∃ u, execRun (.consumeReady i) (n + 1) s = some u ∧ Returned u { st := .ok, rbool := some true } ∧
      u.slots = s.slots ∧ u.cfg = s.cfg := by
  induction n with
  | zero =>
    obtain ⟨t, he, hret, hs, hcfg⟩ := consumeReady_answersTrue h hc hr
    exact ⟨t.tick, execRun_succ (k := 0) rfl he, hret, hs, hcfg⟩
  | succ n ih =>
    obtain ⟨u, hrun, hret, hs, hcfg⟩ := ih
    have hslot : u.slot i = s.slot i := by rw [State.slot, hs]; rfl
    obtain ⟨t, he, hret', hs', hcfg'⟩ :=
      consumeReady_answersTrue (idle_ready_of_returned h hcfg hret).1 (hslot ▸ hc) (hslot ▸ hr)
    exact ⟨t.tick, execRun_succ hrun he, hret', hs'.trans hs, hcfg'.trans hcfg⟩

theorem exec_irqBody_setReady {s : State} {i : Nat} (hi : i < s.cfg.nSlots) (hp : (s.vec i).ph = .setReady) :
    exec (.irqBody i) s = .next (s.bodySetReady i) := by
  simp [exec, execIrqBody, operandRefusal, hi, hp]

/-- CLEAR_READY clears the flag of its slot and returns (R112). -/
theorem clearReady_clears {s : State} {i : Nat} (h : Idle s (.clearReady i)) (hi : i < s.slots.length) :
    ∃ t, exec (.clearReady i) s = .next t ∧ Returned t { st := .ok } ∧ t.slot i = { s.slot i with ready := false } ∧
      t.cfg = s.cfg :=
  ⟨_, exec_clearReady h, ⟨rfl, rfl⟩, s.slot_setSlot_same i _ hi, rfl⟩

/-- Settles O41: no CONSUME_READY writes the slot, and CLEAR_READY clears its flag. -/
theorem readyUntilCleared : Obligations.ReadyUntilCleared := by
  unfold Obligations.ReadyUntilCleared
  intro s i h hz hcl hp
  have hn : i < s.cfg.nSlots := runnable_slot_lt rfl h.1
  have hi := hz.lt_slots hn
  have hset : (s.bodySetReady i).slot i = { s.slot i with ready := true } := s.slot_setSlot_same i _ hi
  refine ⟨_, exec_irqBody_setReady hn hp, fun n => ?_⟩
  obtain ⟨u, hrun, hret, hs, hcfg⟩ :=
    execRun_consumeReady (s := s.bodySetReady i) h (by rw [hset]; exact hcl) (by rw [hset]) n
  have hu : u.slot i = { s.slot i with ready := true } := by rw [State.slot, hs]; exact hset
  obtain ⟨hcons, hclear⟩ := idle_ready_of_returned h hcfg hret
  obtain ⟨x, hex, hretx, hx, hcfgx⟩ := clearReady_clears hclear (by rw [hs]; simpa [State.bodySetReady] using hi)
  obtain ⟨y, hey, hrety, -⟩ := consumeReadyReadsTheFlag x i (idle_ready_of_returned hcons hcfgx hretx).1
  rw [hx, hu] at hrety
  exact ⟨u, x, y, hrun, hret, hex, hey, hrety hcl⟩

end Sys2Proof.Machine
end

section
/-! PROOFS. What one step of the machine does to the slots, said once, and that a claim stays until it is released (O53). -/

namespace Sys2Proof.Machine

/-! One step and one slot. -/

/-- A step of a body whose vector is idle is its dispatch, which writes no slot (R147). -/
theorem execIrqBody_slot_of_idle {i : Nat} {s t : State} (hp : (s.vec i).ph = .idle)
    (h : exec (.irqBody i) s = .next t) (k : Nat) : t.slot k = s.slot k := by
  obtain ⟨-, hi, ho⟩ := execIrqBody_slotWrite h
  by_cases hk : k = i
  · subst hk
    generalize t.slot k = y at hi
    cases hi with
    | same => rfl
    | read _ hr => rw [hp] at hr; cases hr
    | ready hr => rw [hp] at hr; cases hr
  · exact ho k hk

/-- What a step of the machine other than a power cycle may do to slot `k`: a step of its running body, or one of the
foreground's next instruction while none runs (R18, R121, R149). -/
inductive StepSlotWrite (s : State) (k : Nat) : Slot → Prop where
  | same : StepSlotWrite s k (s.slot k)
  | body {x : Slot} : s.running = some k → BodySlotWrite s k x → StepSlotWrite s k x
  | foreground {i : Instr} {x : Slot} : s.running = none → s.nextInstr = some i → SlotWrite s i k x →
      StepSlotWrite s k x

theorem SlotWrite.congr {s t : State} {i : Instr} {k : Nat} {x : Slot} (h : SlotWrite t i k x)
    (hs : t.slots = s.slots) (hf : t.fg = s.fg) : SlotWrite s i k x := by
  have hk : t.slot k = s.slot k := by rw [State.slot, hs]; rfl
  have hp : t.phaseOf i = s.phaseOf i := by rw [State.phaseOf, hf]; rfl
  cases h with
  | same => rw [hk]; exact .same
  | claim hi h3 hj => rw [hk]; exact .claim hi (hp ▸ h3) (hf ▸ hj)
  | attach hi h4 hj => rw [hk]; exact .attach hi (hp ▸ h4) (hf ▸ hj)
  | detach hi => rw [hk]; exact .detach hi
  | release hi h2 => rw [hk]; exact .release hi (hp ▸ h2)
  | clear hi => rw [hk]; exact .clear hi

theorem BodySlotWrite.congr {s t : State} {k : Nat} {x : Slot} (h : BodySlotWrite t k x) (hs : t.slots = s.slots)
    (hv : t.vecs = s.vecs) : BodySlotWrite s k x := by
  have hk : t.slot k = s.slot k := by rw [State.slot, hs]; rfl
  have hp : t.vec k = s.vec k := by rw [State.vec, hv]; rfl
  cases h with
  | same => rw [hk]; exact .same
  | read y hr => rw [hk]; exact .read y (hp ▸ hr)
  | ready hr => rw [hk]; exact .ready (hp ▸ hr)

/-- The moves taken and the wait for a dispatch are in none of it. -/
theorem StepSlotWrite.of_moved {s : State} {ms : List Move} {q : Option Nat} {k : Nat} {x : Slot}
    (h : StepSlotWrite { s with moves := ms, patience := q } k x) : StepSlotWrite s k x := by
  cases h with
  | same => exact .same
  | body hr hw => exact .body hr (hw.congr rfl rfl)
  | foreground hr hn hw => exact .foreground hr hn (hw.congr rfl rfl)

/-- A turn of an agent writes the slots as `StepSlotWrite` says. -/
theorem Ran.slotWrite {s t : State} (h : Ran s t) (k : Nat) : StepSlotWrite s k (t.slot k) := by
  have hDispatch : ∀ {i} {u : State}, u.slots = s.slots → u.vecs = s.vecs → s.running = none →
      exec (.irqBody i) u = .next t → StepSlotWrite s k (t.slot k) := by
    intro i u hs hv hr h
    have hp : (u.vec i).ph = .idle := by rw [State.vec, hv]; exact s.running_none_iff.mp hr i
    rw [execIrqBody_slot_of_idle hp h, State.slot, hs]
    exact .same
  have hForeground : ∀ {i} {u : State}, u.slots = s.slots → u.vecs = s.vecs → u.fg = s.fg → s.running = none →
      s.nextInstr = some i → exec i u = .next t → StepSlotWrite s k (t.slot k) := by
    intro i u hs hv hf hr hn h
    by_cases hb : ∃ j, i = .irqBody j
    · obtain ⟨j, rfl⟩ := hb
      exact hDispatch hs hv hr h
    · exact .foreground hr hn (((exec_slotWrite h fun j e => hb ⟨j, e⟩).2 k).congr hs hf)
  cases h with
  | @body i _ hc h =>
    obtain hr | hc := hc
    · obtain ⟨-, hi, ho⟩ := execIrqBody_slotWrite h
      by_cases hk : k = i
      · subst hk; exact .body hr hi
      · rw [ho k hk]; exact .same
    · obtain ⟨-, -, hr⟩ := (s.canDispatch_iff i).mp hc
      exact hDispatch rfl rfl hr h
  | goesOn hr ho h => exact hForeground rfl rfl rfl hr (by simp [State.nextInstr, ho]) h
  | starts hr ho hp hd h =>
    exact hForeground (u := s.takePort) rfl rfl rfl hr (by simp [State.nextInstr, ho, hp, hd]) h
  | waits => exact .same

/-- No move of the outside world but a power cycle writes a slot. -/
theorem Happened.slots {s t : State} {m : Move} (h : Happened s m t) (hm : m ≠ .powerCycle) : t.slots = s.slots := by
  cases h with
  | present w | setIE v | await | dispatch i | dispatchInFrame i | pulse p => rfl
  | writeMode r md _ h => rw [(State.writeMode_next h).2]; rfl
  | load r f _ h => rw [State.load_next h]
  | discard x _ h =>
    obtain ⟨-, rfl | ⟨r, -, rfl⟩⟩ := State.discard_next h
    · rfl
    · rfl
  | otherFeed b v h => rw [(State.otherFeed_next h).2]; rfl
  | sample b bytes => exact State.deviceSample_keeps (·.slots) (by simp) (by simp) (by simp) s b bytes
  | powerCycle => exact absurd rfl hm

/-- Every step but a power cycle writes the slots as `StepSlotWrite` says. -/
theorem step_slotWrite {s t : State} (h : step s = .next t) (hp : s.moves.head? ≠ some .powerCycle) (k : Nat) :
    StepSlotWrite s k (t.slot k) := by
  obtain ⟨u, rfl, ⟨ms, q, hr⟩ | ⟨m, ms, hm, -, hh⟩⟩ := step_cases h
  · exact (hr.slotWrite k).of_moved
  · have hs := hh.slots (by simpa [hm] using hp)
    rw [State.slot, State.tick_slots, hs]
    exact .same

/-! What a claim keeps (R13 to R16, R117). -/

section
variable {s : State} {k : Nat} {x : Slot}

/-- The claim finds REGISTER at its line 3, and the slot it chose unclaimed (R107). -/
theorem State.TableInv.claim {pin : Pin} {b : Binding} {f : Byte} {r : StorageRef} (h : s.TableInv)
    (hp : s.phaseOf (.register pin b f r) = some (.line 3)) :
    s.AtRegister pin b f r 3 ∧ (s.slot s.fg.slot).claimed = false := by
  have hr := State.phaseOf_progress hp (by simp)
  obtain ⟨-, -, -, h3, -⟩ := h
  exact ⟨hr, h3 _ _ _ _ hr⟩

/-- A claimed slot keeps its binding and its storage (R117 (2)): only a claim writes them. -/
theorem StepSlotWrite.binding (h : StepSlotWrite s k x) (hs : s.TableInv) (hc : (s.slot k).claimed = true) :
    x.binding = (s.slot k).binding ∧ x.rapWrite = (s.slot k).rapWrite ∧ x.sampleRef = (s.slot k).sampleRef := by
  cases h with
  | same => exact ⟨rfl, rfl, rfl⟩
  | body _ hw => cases hw <;> exact ⟨rfl, rfl, rfl⟩
  | foreground _ _ hw =>
    cases hw with
    | same | attach _ _ _ | detach _ | release _ _ | clear _ => exact ⟨rfl, rfl, rfl⟩
    | claim hi hp hk => subst hi hk; rw [(hs.claim hp).2] at hc; cases hc

/-- It stays claimed, but for line 2 of its UNREGISTER (R13, R117 (5)). -/
theorem StepSlotWrite.stays_claimed (h : StepSlotWrite s k x) (hc : (s.slot k).claimed = true)
    (hr : ¬(s.fg.op = some (.unregister k) ∧ s.fg.ph = .line 2)) : x.claimed = true := by
  cases h with
  | same => exact hc
  | body _ hw => cases hw <;> exact hc
  | foreground _ _ hw =>
    cases hw with
    | same | attach _ _ _ | detach _ | clear _ => exact hc
    | claim _ _ _ => rfl
    | release hi hp => subst hi; exact absurd (State.phaseOf_progress hp (by simp)) hr

/-- It stays ready, but for its CLEAR_READY (R16, R114). -/
theorem StepSlotWrite.stays_ready (h : StepSlotWrite s k x) (hs : s.TableInv) (hc : (s.slot k).claimed = true)
    (hn : s.nextInstr ≠ some (.clearReady k)) (hr : (s.slot k).ready = true) : x.ready = true := by
  cases h with
  | same => exact hr
  | body _ hw =>
    cases hw with
    | same | read _ _ => exact hr
    | ready _ => rfl
  | foreground _ hi hw =>
    cases hw with
    | same | attach _ _ _ | detach _ | release _ _ => exact hr
    | claim hi hp hk => subst hi hk; rw [(hs.claim hp).2] at hc; cases hc
    | clear e => subst e; exact absurd hi hn

/-- A slot is claimed only by line 3 of the REGISTER that chose it (R13). -/
theorem StepSlotWrite.claims (h : StepSlotWrite s k x) (hs : s.TableInv) (hu : (s.slot k).claimed = false)
    (hc : x.claimed = true) : ∃ pin b f r, s.AtRegister pin b f r 3 ∧ s.fg.slot = k := by
  have hsame : x.claimed = (s.slot k).claimed → False := fun e => by rw [e, hu] at hc; cases hc
  cases h with
  | same => exact (hsame rfl).elim
  | body _ hw => cases hw <;> exact (hsame rfl).elim
  | foreground _ _ hw =>
    cases hw with
    | same | attach _ _ _ | detach _ | clear _ => exact (hsame rfl).elim
    | release _ _ => cases hc
    | claim hi hp hk => subst hi; exact ⟨_, _, _, _, (hs.claim hp).1, hk.symm⟩

/-- Its flag is set only by the last step of its own body (R16). -/
theorem StepSlotWrite.sets_ready (h : StepSlotWrite s k x) (hu : (s.slot k).ready = false) (hr : x.ready = true) :
    s.running = some k ∧ (s.vec k).ph = .setReady := by
  have hsame : x.ready = (s.slot k).ready → False := fun e => by rw [e, hu] at hr; cases hr
  cases h with
  | same => exact (hsame rfl).elim
  | body hrun hw =>
    cases hw with
    | same | read _ _ => exact (hsame rfl).elim
    | ready hp => exact ⟨hrun, hp⟩
  | foreground _ _ hw =>
    cases hw with
    | same | attach _ _ _ | detach _ | release _ _ => exact (hsame rfl).elim
    | claim _ _ _ | clear _ => cases hr

/-- Its raw buffer changes only in READ of its own body (R15). -/
theorem StepSlotWrite.fills_raw (h : StepSlotWrite s k x) (hne : x.raw ≠ (s.slot k).raw) :
    s.running = some k ∧ (s.vec k).ph = .read := by
  cases h with
  | same => exact absurd rfl hne
  | body hrun hw =>
    cases hw with
    | same | ready _ => exact absurd rfl hne
    | read _ hp => exact ⟨hrun, hp⟩
  | foreground _ _ hw => cases hw <;> exact absurd rfl hne

/-- While a body runs no slot but its own changes (R117 (3)). -/
theorem StepSlotWrite.other {i : Nat} (h : StepSlotWrite s k x) (hr : s.running = some i) (hk : k ≠ i) :
    x = s.slot k := by
  cases h with
  | same => rfl
  | body hrun _ => exact absurd (Option.some.inj (hrun.symm.trans hr)) hk
  | foreground hnone _ _ => rw [hnone] at hr; cases hr

end

/-- No more slots are claimed than the table has (R117 (4)). -/
theorem State.TableInv.claimed_le {s : State} (h : s.TableInv) :
    (s.slots.filter (fun x => x.claimed)).length ≤ s.cfg.nSlots := by
  obtain ⟨⟨-, hn, -⟩, -⟩ := h
  exact hn ▸ List.length_filter_le _ _

/-- Settles O53, rule by rule, from what a step may do to a slot. -/
theorem claimsStayUntilReleased : Obligations.ClaimsStayUntilReleased := by
  unfold Obligations.ClaimsStayUntilReleased
  intro s t hs h hp
  have hw := step_slotWrite h hp
  refine ⟨(step_tableInv hs h).claimed_le, fun i hr j hj => (hw j).other hr hj, fun i =>
    ⟨fun hc => ?_, (hw i).claims hs, (hw i).sets_ready, (hw i).fills_raw⟩⟩
  obtain ⟨hb, hwr, href⟩ := (hw i).binding hs hc
  exact ⟨hb, hwr, href, (hw i).stays_claimed hc, (hw i).stays_ready hs hc⟩

end Sys2Proof.Machine
end

section
/-! PROOFS. The sample decoder in plain arithmetic (O47). -/

namespace Sys2Proof.Machine

open Sys2Proof.Claims

/-- A byte above another one, in sixteen bits (R124). -/
theorem byteAbove_toNat (lo hi : Byte) :
    (lo.setWidth 16 ||| hi.setWidth 16 <<< 8).toNat = lo.toNat + 256 * hi.toNat := by
  have hlo := lo.isLt
  have hhi := hi.isLt
  have e : (hi.setWidth 16 <<< 8).toNat = 2 ^ 8 * hi.toNat := by
    rw [BitVec.toNat_shiftLeft, BitVec.toNat_setWidth, Nat.shiftLeft_eq]
    omega
  rw [BitVec.toNat_or, e, BitVec.toNat_setWidth, Nat.mod_eq_of_lt (by omega), Nat.or_comm,
    ← Nat.two_pow_add_eq_or_of_lt hlo, Nat.add_comm]

/-- The high nibble of a byte, in its place and moved four bits up, stands above a byte (R124). -/
theorem highNibble_shiftLeft (b : Byte) : (b &&& (0xF0 : Byte)).setWidth 16 <<< 4 = (b >>> 4).setWidth 16 <<< 8 := by
  ext i hi
  interval_cases i <;> simp

/-- The low `k` bits of a byte are its residue. -/
theorem lowBits_toNat (b : Byte) {k : Nat} {m : Byte} (hm : m.toNat = 2 ^ k - 1) :
    (b &&& m).toNat = b.toNat % 2 ^ k := by
  rw [BitVec.toNat_and, hm, Nat.and_two_pow_sub_one_eq_mod]

theorem decodeAbsolute_decoded (b0 b1 b2 b3 b4 b5 : Byte) :
    AbsDecoded b0 b2 b3 b4 b5 (decodeAbsolute b0 b1 b2 b3 b4 b5) := by
  refine ⟨?_, ?_, lowBits_toNat b5 (k := 6) rfl, lowBits_toNat b0 (k := 6) rfl, ?_⟩
  · exact (byteAbove_toNat b2 _).trans (congrArg (b2.toNat + 256 * ·) (lowBits_toNat b4 (k := 4) rfl))
  · show (b3.setWidth 16 ||| (b4 &&& (0xF0 : Byte)).setWidth 16 <<< 4).toNat = _
    rw [highNibble_shiftLeft, byteAbove_toNat, BitVec.toNat_ushiftRight, Nat.shiftRight_eq_div_pow]
  · simp only [decodeAbsolute, decide_eq_true_eq, ne_eq, BitVec.toNat_eq]
    rfl

theorem toInt_eq_signed (b : Byte) : b.toInt = signed b := by
  rw [BitVec.toInt_eq_toNat_cond, signed]
  split <;> split <;> omega

theorem decodeRelative_decoded (b0 b1 b2 b3 : Byte) : RelDecoded b0 b1 b2 b3 (decodeRelative b0 b1 b2 b3) :=
  ⟨lowBits_toNat b0 (k := 3) rfl, toInt_eq_signed b1, toInt_eq_signed b2, toInt_eq_signed b3⟩

/-- Settles O47: either decode function leaves its sample as the result. -/
theorem decodeFields : Obligations.DecodeFields := by
  unfold Obligations.DecodeFields
  exact ⟨fun _ b0 b1 b2 b3 b4 b5 => ⟨_, rfl, decodeAbsolute_decoded b0 b1 b2 b3 b4 b5⟩,
    fun _ b0 b1 b2 b3 => ⟨_, rfl, decodeRelative_decoded b0 b1 b2 b3⟩⟩

end Sys2Proof.Machine
end

section
/-! PROOFS. The five steps of IRQ_BODY: what each does when its frame is done (O43), and what a failed frame leaves
(O44). -/

namespace Sys2Proof.Machine

open Sys2Proof.Claims

/-! The accessors of states that agree on a field. -/

theorem slot_of_slots {s t : State} (h : t.slots = s.slots) (j : Nat) : t.slot j = s.slot j := by
  rw [State.slot, h]; rfl

theorem sample_of_samples {s t : State} (h : t.samples = s.samples) (r : StorageRef) : t.sample r = s.sample r := by
  rw [State.sample, h]; rfl

theorem vec_of_vecs {s t : State} (h : t.vecs = s.vecs) (j : Nat) : t.vec j = s.vec j := by
  rw [State.vec, h]; rfl

/-! The frames of the body (R122). -/

/-- `s` after the packet read of the body of vector `i`, done or failed. -/
def State.packetRead (s : State) (i : Nat) : State :=
  (s.memRead (s.vec i).rbind s.cfg.regPktBase (packetLen (s.vec i).mode)).2

/-- `s` after the clearing write of the body of vector `i`, done or failed. -/
def State.flagsCleared (s : State) (i : Nat) : State :=
  (s.memWrite (s.vec i).wbind s.cfg.regStatus s.cfg.statusClear).2

/-- `s` after a frame that leaves `x` in the raw buffer of slot `i`: what READ is before its vector moves. -/
def State.rawFilled (s : State) (i : Nat) (x : Raw) : State :=
  (s.packetRead i).setSlot i { s.slot i with raw := x }

theorem State.packetRead_leaves (s : State) (i : Nat) :
    TableSame s (s.packetRead i) ∧ OutsideSame s (s.packetRead i) ∧
      OtherSensorsSame s (s.packetRead i) (s.vec i).rbind :=
  s.memRead_leaves _ _ _

theorem State.flagsCleared_leaves (s : State) (i : Nat) :
    TableSame s (s.flagsCleared i) ∧ OutsideSame s (s.flagsCleared i) ∧
      OtherSensorsSame s (s.flagsCleared i) (s.vec i).wbind :=
  s.memWrite_leaves _ _ _

/-- The bytes of a packet fill the front of the raw buffer (R15, R122). -/
theorem fillRaw_packetFilled (m : Mode) (old : Raw) {bytes : List Byte} (h : bytes.length = packetLen m) :
    PacketFilled m old (fillRaw old bytes (packetLen m)) bytes := by
  cases m with
  | absolute => match bytes, h with | [_, _, _, _, _, _], _ => exact ⟨rfl, rfl⟩
  | relative => match bytes, h with | [_, _, _, _], _ => exact ⟨rfl, rfl⟩

/-- A packet that is read fills the raw buffer, and the body goes on (R122). -/
theorem State.bodyRead_done {s : State} (i : Nat) (hf : s.answer.fail = false) :
    ∃ bytes x, PacketFilled (s.vec i).mode (s.slot i).raw x bytes ∧
      (s.packetRead i).trace = .read (s.vec i).rbind s.cfg.regPktBase bytes.length bytes :: s.trace ∧
      s.bodyRead i = (s.rawFilled i x).vecGoto i .stamp := by
  obtain ⟨hb, htr⟩ := s.memRead_done (s.vec i).rbind s.cfg.regPktBase (packetLen (s.vec i).mode) hf
  refine ⟨_, _, fillRaw_packetFilled _ _ (deviceSupply_length _ _ _ _), by rw [deviceSupply_length]; exact htr, ?_⟩
  simp only [State.bodyRead, hb, State.memRead_slot, State.rawFilled, State.packetRead]

/-- After a failed packet read the body ends, with free bytes in the raw buffer (R128; log 21). -/
theorem State.bodyRead_failed {s : State} (i : Nat) (hf : s.answer.fail = true) :
    ∃ x, s.bodyRead i = (s.rawFilled i x).vecFail i := by
  obtain ⟨hb, -⟩ := s.memRead_failed (s.vec i).rbind s.cfg.regPktBase (packetLen (s.vec i).mode) hf
  exact ⟨_, by simp only [State.bodyRead, hb, State.memRead_slot, State.rawFilled, State.packetRead]; rfl⟩

theorem State.bodyRead_cases (s : State) (i : Nat) :
    ∃ x, s.bodyRead i = (s.rawFilled i x).vecGoto i .stamp ∨ s.bodyRead i = (s.rawFilled i x).vecFail i := by
  cases hf : s.answer.fail with
  | false => obtain ⟨-, x, -, -, he⟩ := s.bodyRead_done i hf; exact ⟨x, .inl he⟩
  | true => obtain ⟨x, he⟩ := s.bodyRead_failed i hf; exact ⟨x, .inr he⟩

theorem State.bodyClear_done {s : State} (i : Nat) (hf : s.answer.fail = false) :
    s.bodyClear i = (s.flagsCleared i).vecGoto i .decode := by
  simp only [State.bodyClear, State.flagsCleared, State.memWrite_done _ _ _ _ hf, if_true]

theorem State.bodyClear_failed {s : State} (i : Nat) (hf : s.answer.fail = true) :
    s.bodyClear i = (s.flagsCleared i).vecFail i := by
  simp [State.bodyClear, State.flagsCleared, (s.memWrite_failed _ _ _ hf).1]

theorem State.bodyClear_cases (s : State) (i : Nat) :
    s.bodyClear i = (s.flagsCleared i).vecGoto i .decode ∨ s.bodyClear i = (s.flagsCleared i).vecFail i := by
  cases hf : s.answer.fail with
  | false => exact .inl (s.bodyClear_done i hf)
  | true => exact .inr (s.bodyClear_failed i hf)

/-! The steps, one equation per phase (R131). -/

section
variable {s : State} {i : Nat}

theorem exec_irqBody_read (hi : i < s.cfg.nSlots) (hp : (s.vec i).ph = .read) :
    exec (.irqBody i) s = .next (s.bodyRead i) := by
  simp [exec, execIrqBody, operandRefusal, hi, hp]

theorem exec_irqBody_stamp (hi : i < s.cfg.nSlots) (hp : (s.vec i).ph = .stamp) :
    exec (.irqBody i) s = .next (s.bodyStamp i) := by
  simp [exec, execIrqBody, operandRefusal, hi, hp]

theorem exec_irqBody_clear (hi : i < s.cfg.nSlots) (hp : (s.vec i).ph = .clear) :
    exec (.irqBody i) s = .next (s.bodyClear i) := by
  simp [exec, execIrqBody, operandRefusal, hi, hp]

theorem exec_irqBody_decode (hi : i < s.cfg.nSlots) (hp : (s.vec i).ph = .decode) :
    exec (.irqBody i) s = .next (s.bodyDecode i) := by
  simp [exec, execIrqBody, operandRefusal, hi, hp]

/-- The body of one of the table's vectors goes on after an update that writes no vector. -/
theorem State.vecGoto_goesOn {u : State} (hl : i < s.vecs.length) (hv : u.vecs = s.vecs) (p : VecPhase) :
    VecGoesOn s (u.vecGoto i p) i p := by
  rw [VecGoesOn, State.vecGoto, State.vec_setVec_same u i _ (hv ▸ hl), vec_of_vecs hv]

/-- It fails after such an update with its latch set and its working copy as it was (R128). -/
theorem State.vecFail_fails {u : State} (hl : i < s.vecs.length) (hv : u.vecs = s.vecs) :
    (u.vecFail i).vec i = { s.vec i with fault := true, ph := .idle } := by
  rw [State.vec_vecFail u i (hv ▸ hl), vec_of_vecs hv]

theorem State.rawFilled_vecs (s : State) (i : Nat) (x : Raw) : (s.rawFilled i x).vecs = s.vecs := by
  obtain ⟨⟨-, hv, -⟩, -⟩ := s.packetRead_leaves i
  exact hv

theorem State.rawFilled_samples (s : State) (i : Nat) (x : Raw) : (s.rawFilled i x).samples = s.samples := by
  obtain ⟨⟨-, -, -, -, hs, -⟩, -⟩ := s.packetRead_leaves i
  exact hs

theorem State.rawFilled_slot (hl : i < s.slots.length) (x : Raw) :
    (s.rawFilled i x).slot i = { s.slot i with raw := x } := by
  obtain ⟨⟨hs, -⟩, -⟩ := s.packetRead_leaves i
  exact State.slot_setSlot_same _ i _ (hs ▸ hl)

theorem State.rawFilled_ready (hl : i < s.slots.length) (x : Raw) :
    ((s.rawFilled i x).slot i).ready = (s.slot i).ready := by
  rw [State.rawFilled_slot hl]

/-- Within the table's bounds a vector index names a vector (R20). -/
theorem State.Sized.lt_vecs (hz : s.Sized) (hi : i < s.cfg.nSlots) : i < s.vecs.length := by
  obtain ⟨-, -, hv, -⟩ := hz
  rwa [hv]

/-! What each step does. -/

/-- READ, its frame done, fills the front of the raw buffer (R122, R130). -/
theorem irqBody_reads (hz : s.Sized) (hi : i < s.cfg.nSlots) (hp : (s.vec i).ph = .read)
    (hf : s.answer.fail = false) :
    ∃ t bytes, exec (.irqBody i) s = .next t ∧ PacketFilled (s.vec i).mode (s.slot i).raw (t.slot i).raw bytes ∧
      t.trace = .read (s.vec i).rbind s.cfg.regPktBase bytes.length bytes :: s.trace ∧
      (t.slot i).ready = (s.slot i).ready ∧ VecGoesOn s t i .stamp ∧ t.samples = s.samples := by
  obtain ⟨bytes, x, hfill, htr, he⟩ := s.bodyRead_done i hf
  have hl := hz.lt_slots hi
  have hraw : ((s.rawFilled i x).slot i).raw = x := by rw [State.rawFilled_slot hl]
  refine ⟨s.bodyRead i, bytes, exec_irqBody_read hi hp, ?_⟩
  rw [he]
  exact ⟨hraw.symm ▸ hfill, htr, State.rawFilled_ready hl x,
    State.vecGoto_goesOn (hz.lt_vecs hi) (s.rawFilled_vecs i x) .stamp, s.rawFilled_samples i x⟩

/-- STAMP writes the time into the storage (R122, R123). -/
theorem irqBody_stamps (hz : s.Sized) (hi : i < s.cfg.nSlots) (hp : (s.vec i).ph = .stamp) :
    ∃ t, exec (.irqBody i) s = .next t ∧
      t.sample (s.vec i).sref = { s.sample (s.vec i).sref with timestamp := s.answer.time % 2 ^ s.cfg.timeWidth } ∧
      VecGoesOn s t i .clear ∧ t.slots = s.slots ∧ BusSame s t :=
  ⟨_, exec_irqBody_stamp hi hp, s.sample_setSample_same _ _, State.vecGoto_goesOn (hz.lt_vecs hi) rfl .clear, rfl,
    rfl, rfl, rfl⟩

/-- CLEAR, its frame done, clears the status flags, and the line goes low (R122, R48). -/
theorem irqBody_clears (hz : s.Sized) (hi : i < s.cfg.nSlots) (hp : (s.vec i).ph = .clear)
    (hf : s.answer.fail = false) :
    ∃ t, exec (.irqBody i) s = .next t ∧ WriteFrame s t (s.vec i).wbind s.cfg.regStatus s.cfg.statusClear ∧
      (t.sensor (s.vec i).wbind).line = false ∧ VecGoesOn s t i .decode ∧ t.slots = s.slots ∧
      t.samples = s.samples := by
  have hw : WriteFrame s (s.flagsCleared i) (s.vec i).wbind s.cfg.regStatus s.cfg.statusClear := by
    rw [State.flagsCleared, s.memWrite_done _ _ _ hf]
    exact s.sensorWrite_writeFrame _ _ _ hz.1
  obtain ⟨⟨hs, hv, -, -, hsm, -⟩, -⟩ := s.flagsCleared_leaves i
  have hline : ((s.flagsCleared i).sensor (s.vec i).wbind).line = false := by
    obtain ⟨-, -, -, -, hl, -⟩ := hw
    rw [hl, if_pos ⟨rfl, rfl⟩]
  refine ⟨s.bodyClear i, exec_irqBody_clear hi hp, ?_⟩
  rw [s.bodyClear_done i hf]
  exact ⟨hw, hline, State.vecGoto_goesOn (hz.lt_vecs hi) hv .decode, hs, hsm⟩

theorem decodeInto_sampleDecoded (m : Mode) (raw : Raw) (x : Sample) : SampleDecoded m raw x (decodeInto m raw x) := by
  cases m with
  | absolute => exact ⟨fun _ => ⟨_, rfl, decodeAbsolute_decoded _ _ _ _ _ _⟩, nofun⟩
  | relative => exact ⟨nofun, fun _ => ⟨_, rfl, decodeRelative_decoded _ _ _ _⟩⟩

/-- DECODE writes the member the tag selects (R122, R124, R125). -/
theorem irqBody_decodes (hz : s.Sized) (hi : i < s.cfg.nSlots) (hp : (s.vec i).ph = .decode) :
    ∃ t, exec (.irqBody i) s = .next t ∧
      SampleDecoded (s.vec i).mode (s.slot i).raw (s.sample (s.vec i).sref) (t.sample (s.vec i).sref) ∧
      VecGoesOn s t i .setReady ∧ t.slots = s.slots ∧ BusSame s t := by
  have hsm : (s.bodyDecode i).sample (s.vec i).sref =
      decodeInto (s.vec i).mode (s.slot i).raw (s.sample (s.vec i).sref) := s.sample_setSample_same _ _
  exact ⟨_, exec_irqBody_decode hi hp, hsm ▸ decodeInto_sampleDecoded _ _ _,
    State.vecGoto_goesOn (hz.lt_vecs hi) rfl .setReady, rfl, rfl, rfl, rfl⟩

/-- SETREADY sets the flag, and the vector returns (R122, R131, R148). -/
theorem irqBody_setsReady (hz : s.Sized) (hi : i < s.cfg.nSlots) (hp : (s.vec i).ph = .setReady) :
    ∃ t, exec (.irqBody i) s = .next t ∧ t.slot i = { s.slot i with ready := true } ∧ VecGoesOn s t i .idle ∧
      t.samples = s.samples ∧ BusSame s t :=
  ⟨_, exec_irqBody_setReady hi hp, s.slot_setSlot_same i _ (hz.lt_slots hi),
    State.vecGoto_goesOn (u := s.setReady i true) (hz.lt_vecs hi) rfl .idle, rfl, rfl, rfl, rfl⟩

end

/-- Settles O43, one lemma for each of the five steps. -/
theorem bodyRunsItsFiveSteps : Obligations.BodyRunsItsFiveSteps := by
  unfold Obligations.BodyRunsItsFiveSteps
  exact fun s i hz hi => ⟨irqBody_reads hz hi, irqBody_stamps hz hi, irqBody_clears hz hi, irqBody_decodes hz hi,
    irqBody_setsReady hz hi⟩

/-- Settles O44: after its failed frame either step is the failure of its vector. -/
theorem bodyFailureSetsTheLatch : Obligations.BodyFailureSetsTheLatch := by
  unfold Obligations.BodyFailureSetsTheLatch
  rintro s i hz hi (hp | hp) hf
  · obtain ⟨x, he⟩ := s.bodyRead_failed i hf
    refine ⟨s.bodyRead i, exec_irqBody_read hi hp, ?_⟩
    rw [he]
    exact ⟨State.vecFail_fails (hz.lt_vecs hi) (s.rawFilled_vecs i x), State.rawFilled_ready (hz.lt_slots hi) x,
      s.rawFilled_samples i x, s.memRead_fg _ _ _, fun hc => by simp [hp] at hc⟩
  · obtain ⟨⟨hs, hv, -, -, hsm, -⟩, -⟩ := s.flagsCleared_leaves i
    refine ⟨s.bodyClear i, exec_irqBody_clear hi hp, ?_⟩
    rw [s.bodyClear_failed i hf]
    exact ⟨State.vecFail_fails (hz.lt_vecs hi) hv, congrArg Slot.ready (slot_of_slots hs i), hsm,
      s.memWrite_fg _ _ _, fun _ => hs⟩

end Sys2Proof.Machine
end

section
/-! PROOFS. The frame of IRQ_BODY (O45) and a whole run of it (O46). -/

namespace Sys2Proof.Machine

open Sys2Proof.Claims

/-! What a step of a body leaves alone (R121). -/

/-- The frame a step of the body of vector `i` sends, and what else it does to the buses: nothing (R121, R122). -/
inductive BodyFrame (s : State) (i : Nat) (t : State) : Prop where
  | none : BusSame s t → BodyFrame s i t
  | packet : BusSame (s.packetRead i) t → BodyFrame s i t
  | clear : BusSame (s.flagsCleared i) t → BodyFrame s i t

theorem execIrqBody_bodyFrame {i : Nat} {s t : State} (h : exec (.irqBody i) s = .next t) : BodyFrame s i t := by
  obtain ⟨-, ⟨-, -, rfl⟩ | ⟨-, rfl⟩ | ⟨-, rfl⟩ | ⟨-, rfl⟩ | ⟨-, rfl⟩ | ⟨-, rfl⟩⟩ := execIrqBody_next h
  · exact .none ⟨rfl, rfl, rfl⟩
  · obtain ⟨x, he | he⟩ := s.bodyRead_cases i <;> rw [he] <;> exact .packet ⟨rfl, rfl, rfl⟩
  · exact .none ⟨rfl, rfl, rfl⟩
  · obtain he | he := s.bodyClear_cases i <;> rw [he] <;> exact .clear ⟨rfl, rfl, rfl⟩
  · exact .none ⟨rfl, rfl, rfl⟩
  · exact .none ⟨rfl, rfl, rfl⟩

theorem sensor_of_busSame {s t : State} (h : BusSame s t) (b : Binding) : t.sensor b = s.sensor b := by
  obtain ⟨-, hs, -⟩ := h
  simp [State.sensor, hs]

theorem byteAt_of_busSame {s t : State} (h : BusSame s t) (a : Nat) : t.byteAt a = s.byteAt a := by
  obtain ⟨hm, -⟩ := h
  simp [State.byteAt, hm]

/-- A frame reaches the sensor of its own binding only (R40, R121). -/
theorem BodyFrame.sensor_other {s t : State} {i : Nat} (h : BodyFrame s i t) {b : Binding}
    (hr : sensorKey b ≠ sensorKey (s.vec i).rbind) (hw : sensorKey b ≠ sensorKey (s.vec i).wbind) :
    t.sensor b = s.sensor b := by
  cases h with
  | none h => exact sensor_of_busSame h b
  | packet h => exact (sensor_of_busSame h b).trans (s.memRead_sensor_other _ _ hr)
  | clear h => exact (sensor_of_busSame h b).trans (s.memWrite_sensor_other _ _ hw)

/-- The packet's registers pass the control register by (R6), so that the read completes no access and stores nothing. -/
theorem State.packetRead_byteAt {s : State} (i : Nat) (hv : s.cfg.valid = true) (a : Nat) :
    (s.packetRead i).byteAt a = s.byteAt a := by
  have hlen : packetLen (s.vec i).mode ≤ absLen := by cases (s.vec i).mode <;> decide
  obtain ⟨hb, -⟩ := State.memRead_undisturbed (b := (s.vec i).rbind) hv
    (.inr fun _ hk => Config.valid_packet_ctrl hv (Nat.lt_of_lt_of_le hk hlen))
  exact hb a

/-- Only the clearing write stores a byte, at the status register (R121). -/
theorem BodyFrame.byteAt_other {s t : State} {i : Nat} (h : BodyFrame s i t) (hv : s.cfg.valid = true) {a : Nat}
    (ha : a ≠ windowAddr (s.vec i).wbind s.cfg.regStatus) : t.byteAt a = s.byteAt a := by
  cases h with
  | none h => exact byteAt_of_busSame h a
  | packet h => exact (byteAt_of_busSame h a).trans (s.packetRead_byteAt i hv a)
  | clear h => exact (byteAt_of_busSame h a).trans (s.memWrite_byteAt_other _ _ _ hv ha)

theorem State.bodyRead_pending (s : State) (i : Nat) : (s.bodyRead i).pending = s.pending := by
  obtain ⟨x, he | he⟩ := s.bodyRead_cases i <;> rw [he] <;> exact s.memRead_pending _ _ _

theorem State.bodyClear_pending (s : State) (i : Nat) : (s.bodyClear i).pending = s.pending := by
  obtain he | he := s.bodyClear_cases i <;> rw [he] <;> exact s.memWrite_pending _ _ _

/-- But for its dispatch a body touches no latch, and no storage but the one of its working copy (R121). -/
theorem execIrqBody_running {i : Nat} {s t : State} (hp : (s.vec i).ph ≠ .idle) (h : exec (.irqBody i) s = .next t) :
    t.pending = s.pending ∧ ∀ r, r ≠ (s.vec i).sref → t.sample r = s.sample r := by
  obtain ⟨-, ⟨hp', -, -⟩ | ⟨-, rfl⟩ | ⟨-, rfl⟩ | ⟨-, rfl⟩ | ⟨-, rfl⟩ | ⟨-, rfl⟩⟩ := execIrqBody_next h
  · exact absurd hp' hp
  · exact ⟨s.bodyRead_pending i, fun r _ => sample_of_samples (s.bodyRead_samples i) r⟩
  · exact ⟨rfl, fun _ hr => s.sample_setSample_other _ hr⟩
  · exact ⟨s.bodyClear_pending i, fun r _ => sample_of_samples (s.bodyClear_samples i) r⟩
  · exact ⟨rfl, fun _ hr => s.sample_setSample_other _ hr⟩
  · exact ⟨rfl, fun _ _ => rfl⟩

theorem execIrqBody_onlyRawReady {i : Nat} {s t : State} (h : exec (.irqBody i) s = .next t) : OnlyRawReady s t i := by
  obtain ⟨-, -, hother⟩ := execIrqBody_slotWrite h
  obtain ⟨x, r, e⟩ := execIrqBody_slot h i
  exact ⟨hother, by rw [e]⟩

theorem execIrqBody_outsideSame {i : Nat} {s t : State} (h : exec (.irqBody i) s = .next t) : OutsideSame s t := by
  have hout := exec_outside h
  simp only [Prod.mk.injEq] at hout
  exact hout

/-- Settles O45: a step of a running body is at most one frame to its own sensor, and writes of its slot, its vector and
its storage. -/
theorem bodyTouchesOnlyItsSlot : Obligations.BodyTouchesOnlyItsSlot := by
  unfold Obligations.BodyTouchesOnlyItsSlot
  rintro s t i ⟨hv, -⟩ hp h
  obtain ⟨hpend, hsample⟩ := execIrqBody_running hp h
  have hframe := execIrqBody_bodyFrame h
  have hout := execIrqBody_outside h
  simp only [Prod.mk.injEq] at hout
  obtain ⟨-, hie, hfg, -, hres, hfn, -⟩ := hout
  exact ⟨execIrqBody_onlyRawReady h, fun _ => execIrqBody_vec_other h, hpend, hie, hfg, hres, hfn,
    execIrqBody_outsideSame h, hsample, fun _ => hframe.sensor_other, fun _ => hframe.byteAt_other hv⟩

/-! A whole body (R122, R131). -/

/-- `k` steps of the body of vector `i` lead from `s₀` to phase `p` in `s`, with the working copy and the foreground as
they were and `k` answers used up. -/
structure BodyRan (i : Nat) (s₀ : State) (k : Nat) (p : VecPhase) (s : State) : Prop where
  run : execRun (.irqBody i) k s₀ = some s
  sized : s.Sized
  cfg : s.cfg = s₀.cfg
  answers : s.answers = s₀.answers.drop k
  fg : s.fg = s₀.fg
  vec : s.vec i = { s₀.vec i with ph := p }

section
variable {i : Nat} {s₀ s t : State} {k n : Nat} {p q : VecPhase}

theorem BodyRan.start (hz : s.Sized) : BodyRan i s 0 (s.vec i).ph s := ⟨rfl, hz, rfl, rfl, rfl, rfl⟩

/-- One more step, after which the vector goes on. -/
theorem BodyRan.next (h : BodyRan i s₀ k p s) (he : exec (.irqBody i) s = .next t) (hv : VecGoesOn s t i q) :
    BodyRan i s₀ (k + 1) q t.tick := by
  have hout := execIrqBody_outside he
  simp only [Prod.mk.injEq] at hout
  obtain ⟨hc, -, hfg, -, -, -, -, ha, -⟩ := hout
  refine ⟨execRun_succ h.run he, (execIrqBody_sameFlags he).sized h.sized, hc.trans h.cfg, ?_, hfg.trans h.fg, ?_⟩
  · rw [State.tick_answers, ha, h.answers, List.tail_drop]
  · exact hv.trans (by rw [h.vec])

theorem BodyRan.ph (h : BodyRan i s₀ k p s) : (s.vec i).ph = p := by rw [h.vec]

theorem BodyRan.lt (h : BodyRan i s₀ k p s) (hi : i < s₀.cfg.nSlots) : i < s.cfg.nSlots := h.cfg ▸ hi

theorem BodyRan.noFailure (h : BodyRan i s₀ k p s) (hn : NoFailure n s₀) (hk : k < n) : s.answer.fail = false :=
  noFailure_answer (n := 0) (noFailure_drop hn hk h.answers)

/-- READ, STAMP and CLEAR fill the raw buffer, write the time and send the two frames. -/
theorem irqBody_acquires (hz : s.Sized) (hi : i < s.cfg.nSlots) (hp : (s.vec i).ph = .read) (hn : NoFailure 3 s) :
    ∃ u bytes, BodyRan i s 3 .decode u ∧ PacketFilled (s.vec i).mode (s.slot i).raw (u.slot i).raw bytes ∧
      u.slot i = { s.slot i with raw := (u.slot i).raw } ∧
      u.sample (s.vec i).sref =
        { s.sample (s.vec i).sref with timestamp := s.tick.answer.time % 2 ^ s.cfg.timeWidth } ∧
      u.trace = .write (s.vec i).wbind s.cfg.regStatus s.cfg.statusClear ::
        .read (s.vec i).rbind s.cfg.regPktBase bytes.length bytes :: s.trace ∧
      (u.sensor (s.vec i).wbind).line = false := by
  have r0 := BodyRan.start (i := i) hz
  obtain ⟨t1, bytes, he1, hraw, htr1, hready, hv1, hsm1⟩ := irqBody_reads hz hi hp (r0.noFailure hn (by omega))
  have r1 := r0.next he1 hv1
  obtain ⟨t2, he2, hstamp, hv2, hs2, -, -, htr2⟩ := irqBody_stamps r1.sized (r1.lt hi) r1.ph
  have r2 := r1.next he2 hv2
  obtain ⟨t3, he3, ⟨htr3, -⟩, hline, hv3, hs3, hsm3⟩ :=
    irqBody_clears r2.sized (r2.lt hi) r2.ph (r2.noFailure hn (by omega))
  obtain ⟨-, hown⟩ := execIrqBody_onlyRawReady he1
  have hslot : t3.slot i = t1.slot i := slot_of_slots (hs3.trans hs2) i
  rw [hready, ← hslot] at hown
  rw [r1.vec, r1.cfg, State.tick_answer_of_outsideSame (execIrqBody_outsideSame he1),
    sample_of_samples (t := t1.tick) hsm1] at hstamp
  rw [r2.vec] at hline
  rw [r2.vec, r2.cfg, State.tick_trace, htr2, State.tick_trace, htr1] at htr3
  exact ⟨_, bytes, r2.next he3 hv3, hslot.symm ▸ hraw, hown, (sample_of_samples hsm3 _).trans hstamp, htr3, hline⟩

/-- DECODE and SETREADY write the member the tag selects and set the flag, with no frame. -/
theorem irqBody_delivers (hz : s.Sized) (hi : i < s.cfg.nSlots) (hp : (s.vec i).ph = .decode) :
    ∃ t, BodyRan i s 2 .idle t ∧ t.slot i = { s.slot i with ready := true } ∧
      SampleDecoded (s.vec i).mode (s.slot i).raw (s.sample (s.vec i).sref) (t.sample (s.vec i).sref) ∧
      BusSame s t := by
  obtain ⟨t4, he4, hdec, hv4, hs4, hbus4⟩ := irqBody_decodes hz hi hp
  have r4 := (BodyRan.start (i := i) hz).next he4 hv4
  obtain ⟨t5, he5, hready, hv5, hsm5, hbus5⟩ := irqBody_setsReady r4.sized (r4.lt hi) r4.ph
  obtain ⟨hm4, hse4, htr4⟩ := hbus4
  obtain ⟨hm5, hse5, htr5⟩ := hbus5
  refine ⟨_, r4.next he5 hv5, ?_, ?_, hm5.trans hm4, hse5.trans hse4, htr5.trans htr4⟩
  · rw [slot_of_slots (t := t4.tick) hs4] at hready
    exact hready
  · rw [sample_of_samples (t := t5.tick) hsm5]
    exact hdec

end

/-- Settles O46: three steps acquire the sample, two deliver it. -/
theorem bodyCompletes : Obligations.BodyCompletes := by
  unfold Obligations.BodyCompletes
  intro s i hz hi hp hn
  obtain ⟨u, bytes, hu, hraw, hslot, hstamp, htr, hline⟩ :=
    irqBody_acquires hz hi hp (noFailure_drop (k := 0) hn (by omega) rfl)
  obtain ⟨t, ht, hready, hdec, hbus⟩ := irqBody_delivers hu.sized (hu.lt hi) hu.ph
  have hkeep : (t.slot i).raw = (u.slot i).raw := by rw [hready]
  rw [hu.vec, hstamp, ← hkeep] at hdec
  rw [hslot, ← hkeep] at hready
  rw [← sensor_of_busSame hbus] at hline
  obtain ⟨-, -, htr'⟩ := hbus
  exact ⟨t, bytes, execRun_add hu.run ht.run, hkeep.symm ▸ hraw, hready, hdec, ht.vec.trans (by rw [hu.vec]),
    htr'.trans htr, hline, ht.fg.trans hu.fg⟩

end Sys2Proof.Machine
end

section
/-! PROOFS. At most one body runs (O54), and while it runs the foreground waits for it (O55). -/

namespace Sys2Proof.Machine

/-! One body (R149). -/

/-- A vector that is dispatched finds no body running, and a body that goes on is the only one: a step of the body of
vector `i` leaves every other vector idle. -/
theorem execIrqBody_others_idle {i j : Nat} {s t : State} (hs : s.OneBody) (h : exec (.irqBody i) s = .next t)
    (hj : j ≠ i) : (t.vec j).ph = .idle := by
  rw [execIrqBody_vec_other h hj]
  by_cases hi : (s.vec i).ph = .idle
  · obtain ⟨-, ⟨-, hc, -⟩ | hrest⟩ := execIrqBody_next h
    · obtain ⟨-, -, hr⟩ := (s.canDispatch_iff i).mp hc
      exact s.running_none_iff.mp hr j
    · simp [hi] at hrest
  · by_contra hp
    exact hj (hs j i hp hi)

theorem State.oneBody_of_others_idle {s : State} {i : Nat} (h : ∀ j, j ≠ i → (s.vec j).ph = .idle) : s.OneBody := by
  have hi : ∀ {j}, (s.vec j).ph ≠ .idle → j = i := fun {j} hp => by
    by_contra hj
    exact hp (h j hj)
  exact fun j k hj hk => (hi hj).trans (hi hk).symm

theorem State.OneBody.of_vecs {s t : State} (h : s.OneBody) (e : t.vecs = s.vecs) : t.OneBody := by
  intro i j
  rw [vec_of_vecs e, vec_of_vecs e]
  exact h i j

/-- The foreground's instructions write no vector. -/
theorem exec_oneBody {i : Instr} {s t : State} (hs : s.OneBody) (h : exec i s = .next t) : t.OneBody := by
  by_cases hi : ∃ k, i = .irqBody k
  · obtain ⟨k, rfl⟩ := hi
    exact State.oneBody_of_others_idle fun _ => execIrqBody_others_idle hs h
  · exact hs.of_vecs (exec_foreground_vecs h fun k e => hi ⟨k, e⟩)

/-- Settles O54: a body's step leaves every other vector idle, and nothing else but a power cycle writes one. -/
theorem stepKeepsOneBody : Obligations.StepKeepsOneBody := by
  unfold Obligations.StepKeepsOneBody
  intro s t hs h
  exact step_keeps_block (P := State.OneBody) (fun _ _ ⟨_, _, hv, _⟩ hs => hs.of_vecs hv)
    (fun _ _ _ hs he => exec_oneBody hs he) (fun _ _ hs => hs) (fun s _ => State.resetWith_oneBody s.cfg) hs h

/-! The foreground while a body runs (R147, R148). -/

/-- While body `i` runs the agent in turn is that body. -/
theorem Ran.of_running {s t : State} {i : Nat} (h : Ran s t) (hr : s.running = some i) :
    exec (.irqBody i) s = .next t := by
  have hnot : s.running ≠ none := by simp [hr]
  cases h with
  | @body k _ hc he =>
    obtain hk | hc := hc
    · obtain rfl := Option.some.inj (hr.symm.trans hk)
      exact he
    · obtain ⟨-, -, hn⟩ := (s.canDispatch_iff k).mp hc
      exact absurd hn hnot
  | goesOn hn _ _ => exact absurd hn hnot
  | starts hn _ _ _ _ => exact absurd hn hnot
  | waits hn _ _ => exact absurd hn hnot

/-- While a body runs the host's moves wait, and no other move but a power cycle touches the foreground or a vector. -/
theorem Happened.of_running {s t : State} {m : Move} (h : Happened s m t) (hr : s.running ≠ none)
    (hm : m ≠ .powerCycle) : t.fg = s.fg ∧ t.result = s.result ∧ t.ie = s.ie ∧ t.vecs = s.vecs := by
  cases h with
  | present w hn | setIE v hn | await hn => exact absurd hn hr
  | writeMode r md hn _ => exact absurd hn hr
  | load r f hn _ => exact absurd hn hr
  | discard x hn _ => exact absurd hn hr
  | dispatch i | dispatchInFrame i | pulse p => exact ⟨rfl, rfl, rfl, rfl⟩
  | otherFeed b v h => rw [(State.otherFeed_next h).2]; exact ⟨rfl, rfl, rfl, rfl⟩
  | sample b bytes =>
    have hk := State.deviceSample_keeps (fun u => (u.fg, u.result, u.ie, u.vecs)) (by simp) (by simp) (by simp) s b bytes
    simpa using hk
  | powerCycle => exact absurd rfl hm

@[simp] theorem State.tick_vec (s : State) (j : Nat) : s.tick.vec j = s.vec j := rfl

/-- Settles O55: the step is the running body's, or a move that touches neither the foreground nor a vector. -/
theorem foregroundWaitsForTheBody : Obligations.ForegroundWaitsForTheBody := by
  unfold Obligations.ForegroundWaitsForTheBody
  intro s t i hs hr hp h
  obtain ⟨hi, -⟩ := State.running_some hr
  obtain ⟨u, rfl, ⟨ms, q, hran⟩ | ⟨m, ms, hm, -, hh⟩⟩ := step_cases h
  · have he := hran.of_running hr
    have hout := execIrqBody_outside he
    simp only [Prod.mk.injEq] at hout
    obtain ⟨-, hie, hfg, -, hres, -⟩ := hout
    have hs' : ({ s with moves := ms, patience := q } : State).OneBody := hs
    exact ⟨hfg, hres, hie, fun j hj => execIrqBody_others_idle (t := u) hs' he hj⟩
  · have hnot : ({ s with moves := ms } : State).running ≠ none := by
      show s.running ≠ none
      simp [hr]
    obtain ⟨hfg, hres, hie, hv⟩ := hh.of_running hnot (by simpa [hm] using hp)
    refine ⟨hfg, hres, hie, fun j hj => ?_⟩
    by_contra hne
    rw [State.tick_vec, vec_of_vecs hv] at hne
    exact hj (hs j i hne hi)

end Sys2Proof.Machine
end

section
/-! PROOFS. Dispatch: what it does (O42), and when the platform makes it (O6). -/

namespace Sys2Proof.Machine

open Sys2Proof.Claims

/-! The dispatch of a vector (R147, R122). -/

theorem exec_irqBody_dispatch {s : State} {i : Nat} (hi : i < s.cfg.nSlots) (hc : s.canDispatch i = true) :
    exec (.irqBody i) s = .next (s.dispatchVector i) := by
  obtain ⟨-, -, hr⟩ := (s.canDispatch_iff i).mp hc
  simp [exec, execIrqBody, operandRefusal, hi, s.running_none_iff.mp hr i, hc]

theorem State.canDispatch_of_idle {s : State} {i : Nat} (hp : s.isPending i = true) (hie : s.ie = true)
    (hidle : ∀ j, (s.vec j).ph = .idle) : s.canDispatch i = true :=
  (s.canDispatch_iff i).mpr ⟨hp, hie, s.running_none_iff.mpr hidle⟩

/-- A dispatch writes of the storages the coverage of one (R55; log 13). -/
theorem State.dispatchVector_sample (s : State) (i : Nat) (r : StorageRef) :
    { (s.dispatchVector i).sample r with covered := (s.sample r).covered } = s.sample r := by
  by_cases hr : r = (s.slot i).sampleRef
  · subst hr
    exact congrArg (fun x => { x with covered := (s.sample (s.slot i).sampleRef).covered })
      (State.sample_setSample_same _ (s.slot i).sampleRef _)
  · exact congrArg (fun x => { x with covered := (s.sample r).covered }) (State.sample_setSample_other _ _ hr)

/-- Settles O42, field by field of the dispatch. -/
theorem dispatchEntersTheBody : Obligations.DispatchEntersTheBody := by
  unfold Obligations.DispatchEntersTheBody
  intro s i hz hi hp hie hidle
  refine ⟨_, exec_irqBody_dispatch hi (State.canDispatch_of_idle hp hie hidle), s.isPending_clear_same i,
    (s.setPending i false).vec_setVec_same i _ (hz.lt_vecs hi),
    fun j hj => ⟨(s.setPending i false).vec_setVec_other _ hj, s.isPending_setPending_other false hj⟩,
    rfl, rfl, rfl, rfl, ⟨rfl, rfl, rfl, rfl, rfl, rfl, rfl⟩, ⟨rfl, rfl, rfl⟩, s.dispatchVector_sample i⟩

/-! A dispatch written out as a move (R145, R147, R168). -/

section
variable {s : State} {i : Nat} {ms : List Move}

/-- A move that need not wait is the step. -/
theorem step_of_move {m : Move} (hm : s.moves = m :: ms) (hw : s.mustWait m = false) :
    step s = tickOutcome (doMove m { s with moves := ms }) := by
  simp [step, turn, hm, hw]

theorem step_dispatch (hm : s.moves = .dispatch i :: ms) (hi : i < s.cfg.nSlots) (hc : s.canDispatch i = true) :
    step s = .next ({ s with moves := ms }.dispatchVector i).tick := by
  rw [step_of_move hm rfl, doMove, if_pos ⟨hi, hc⟩, exec_irqBody_dispatch (s := { s with moves := ms }) hi hc]
  rfl

theorem step_dispatchInFrame (hm : s.moves = .dispatchInFrame i :: ms) (hi : i < s.cfg.nSlots)
    (hc : s.canDispatch i = true) : step s = tickOutcome (({ s with moves := ms } : State).dispatchInside i) := by
  rw [step_of_move hm rfl, doMove, if_pos ⟨hi, hc⟩]

/-- On the bus of the foreground's next frame it is the fault of R168. -/
theorem State.dispatchInside_sameBus {b : Binding} (hf : s.nextFrame = some b)
    (hb : sameBus b (s.slot i).binding = true) : s.dispatchInside i = .fault .sharedBusFrame := by
  simp [State.dispatchInside, hf, hb]

/-- On another bus, or with no frame in that step, it is the dispatch before the step (R87; log 25). -/
theorem State.dispatchInside_otherBus (hb : ∀ b, s.nextFrame = some b → sameBus b (s.slot i).binding = false) :
    s.dispatchInside i = exec (.irqBody i) s := by
  unfold State.dispatchInside
  split
  · rename_i b hf
    simp [hb b hf]
  · rfl

end

/-! A step with no move written out (R147; log 37). -/

theorem exec_patience {i : Instr} {s t : State} (h : exec i s = .next t) : t.patience = s.patience := by
  have hout := exec_outside h
  simp only [Prod.mk.injEq] at hout
  obtain ⟨-, -, -, -, -, -, hq⟩ := hout
  exact hq

theorem Ran.patience {s t : State} (h : Ran s t) : t.patience = s.patience := by
  cases h with
  | body _ h => exact exec_patience h
  | goesOn _ _ h => exact exec_patience h
  | starts _ _ _ _ h => exact exec_patience (s := s.takePort) h
  | waits => rfl

/-- A step with a vector that may be dispatched, and no move written out, dispatches one or uses up one of the steps it
may wait, and the count stays while a dispatch could still be made. -/
theorem step_dispatches_or_waits {s t : State} (hm : s.moves = []) (hc : s.candidates ≠ []) (h : step s = .next t) :
    (∃ i, s.canDispatch i = true ∧ t = (s.dispatchVector i).tick) ∨ t.candidates = [] ∨
      s.waitLeft ≠ 0 ∧ t.patience = some (s.waitLeft - 1) := by
  obtain ⟨u, hu, rfl⟩ := step_next h
  have hfree : freeStep s = .next u := by simpa [turn, hm] using hu
  obtain ⟨i, hi, hd, he⟩ | ⟨hnone, -⟩ | ⟨hw, ha⟩ := freeStep_next hfree
  · rw [exec_irqBody_dispatch hi hd] at he
    cases he
    exact .inl ⟨i, hd, rfl⟩
  · exact absurd hnone hc
  · by_cases hnone : u.candidates = []
    · exact .inr (.inl hnone)
    · have hq := (agentStep_ran ha).patience
      exact .inr (.inr ⟨hw, by rw [State.tick_patience, if_neg hnone, hq]⟩)

/-- Settles O6: the two moves by the dispatch they make, the free step by the wait it uses up. -/
theorem dispatchBetweenAndInsideFrames : Obligations.DispatchBetweenAndInsideFrames := by
  unfold Obligations.DispatchBetweenAndInsideFrames
  refine ⟨fun s i ms _ hi hidle hp hie => ?_, fun s t _ hm hc h => ?_⟩
  · have hc := State.canDispatch_of_idle hp hie hidle
    refine ⟨fun hm => step_dispatch hm hi hc, fun hm => ⟨fun b hf hb => ?_, fun hb => ?_⟩⟩
    · rw [step_dispatchInFrame hm hi hc, State.dispatchInside_sameBus (s := { s with moves := ms }) hf hb]
      rfl
    · rw [step_dispatchInFrame hm hi hc, State.dispatchInside_otherBus (s := { s with moves := ms }) hb,
        exec_irqBody_dispatch (s := { s with moves := ms }) hi hc]
      rfl
  · refine (step_dispatches_or_waits hm hc h).imp_right (Or.imp_right ?_)
    rintro ⟨hw, hq⟩
    refine ⟨_, hq, fun p hp => ?_⟩
    have hleft : s.waitLeft = p := by simp [State.waitLeft, hp]
    omega

end Sys2Proof.Machine
end

section
/-! PROOFS. A rising edge (O48), and the sample of a sensor that raises one (O49). -/

namespace Sys2Proof.Machine

open Sys2Proof.Claims

/-! The edge (R143, R144). -/

/-- Latch by latch: the latch before, or that of an attached slot with the pin. -/
theorem latchEdge_getD_eq (p : Pin) {xs : List Slot} {qs : List Bool} (h : xs.length = qs.length) (i : Nat) :
    (latchEdge p xs qs).getD i false =
      (qs.getD i false || ((xs.getD i Slot.reset).attached && decide ((xs.getD i Slot.reset).pin = p))) := by
  induction xs generalizing qs i with
  | nil =>
    obtain rfl := List.length_eq_zero_iff.mp h.symm
    simp [latchEdge, Slot.reset]
  | cons x xs ih =>
    cases qs with
    | nil => cases h
    | cons q qs =>
      cases i with
      | zero => rfl
      | succ i => exact ih (Nat.succ.inj h) i

/-- Settles O48: there are as many latches as slots. -/
theorem edgeSetsTheLatch : Obligations.EdgeSetsTheLatch := by
  unfold Obligations.EdgeSetsTheLatch
  rintro s p i ⟨-, hs, -, hp⟩
  have he : (s.edge p).isPending i = (s.isPending i || ((s.slot i).attached && decide ((s.slot i).pin = p))) :=
    latchEdge_getD_eq p (hs.trans hp.symm) i
  exact ⟨by simp [he], rfl⟩

/-! A rising line (R34, R143). -/

section
variable {s : State} {b : Binding}

theorem State.raiseLine_of_high (h : (s.sensor b).line = true) : s.raiseLine b = s := by
  simp [State.raiseLine, h]

/-- A line that goes high is an edge on the pin it is wired to, if it is to one. -/
theorem State.raiseLine_of_low (h : (s.sensor b).line = false) :
    (∀ p, wiredPin s.cfg b = some p → s.raiseLine b = (s.setSensor b { s.sensor b with line := true }).edge p) ∧
    (wiredPin s.cfg b = none → s.raiseLine b = s.setSensor b { s.sensor b with line := true }) := by
  constructor
  · intro p hp
    simp [State.raiseLine, h, hp]
  · intro hp
    simp [State.raiseLine, h, hp]

end

/-- What a rising line does: nothing if it is high already, and else the sensor's line is set and at most an edge
follows. -/
theorem State.raiseLine_cases (s : State) (b : Binding) :
    ((s.sensor b).line = true ∧ s.raiseLine b = s) ∨
    ∃ q, s.raiseLine b = { s.setSensor b { s.sensor b with line := true } with pending := q } := by
  cases hl : (s.sensor b).line with
  | true => exact .inl ⟨rfl, State.raiseLine_of_high hl⟩
  | false =>
    obtain ⟨hw, hn⟩ := State.raiseLine_of_low hl
    cases hp : wiredPin s.cfg b with
    | some p => exact .inr ⟨_, hw p hp⟩
    | none => exact .inr ⟨_, hn hp⟩

theorem State.raiseLine_sensor (s : State) (b : Binding) :
    (s.raiseLine b).sensor b = { s.sensor b with line := true } := by
  obtain ⟨hl, he⟩ | ⟨q, he⟩ := s.raiseLine_cases b
  · rw [he, ← hl]
  · rw [he]
    exact s.sensor_setSensor_same b _

theorem State.raiseLine_otherSensors (s : State) (b : Binding) : OtherSensorsSame s (s.raiseLine b) b := by
  intro b' hb
  obtain ⟨-, he⟩ | ⟨q, he⟩ := s.raiseLine_cases b
  · rw [he]
  · rw [he]
    exact s.sensor_setSensor_other _ hb

theorem State.raiseLine_byteAt (s : State) (b : Binding) (a : Nat) : (s.raiseLine b).byteAt a = s.byteAt a := by
  obtain ⟨-, he⟩ | ⟨q, he⟩ := s.raiseLine_cases b
  · rw [he]
  · rw [he]
    rfl

/-! The bytes of a sample (R28, R31). -/

/-- `s` with a sample's bytes in the packet registers and the data-ready flag set, its line as it was. -/
def State.sampleStored (s : State) (b : Binding) (bytes : List Byte) : State :=
  let t := storePacket b 0 (bytes.take absLen) s
  t.setWindow b s.cfg.regStatus (orFlag (deviceModel s.cfg b) s.cfg.statusDrMask (t.window b s.cfg.regStatus))

theorem State.sampleStored_sensor (s : State) (b : Binding) (bytes : List Byte) (b' : Binding) :
    (s.sampleStored b bytes).sensor b' = s.sensor b' :=
  storePacket_sensor b b' 0 _ s

theorem State.sampleStored_keeps {α : Type} (f : State → α) (hw : ∀ s b r v, f (State.setWindow s b r v) = f s)
    (s : State) (b : Binding) (bytes : List Byte) : f (s.sampleStored b bytes) = f s :=
  (hw _ _ _ _).trans (storePacket_keeps f hw b 0 _ s)

/-- The status register is none of the packet's (R6). -/
theorem Config.valid_packet_status {c : Config} (h : c.valid = true) {j : Nat} (hj : j < absLen) :
    c.regPktBase + BitVec.ofNat 5 j ≠ c.regStatus := by
  obtain ⟨hb, hn⟩ := Config.valid_packet h
  have hout := hn c.regStatus (by simp [Config.namedRegs])
  intro e
  have hnat := congrArg BitVec.toNat e
  simp only [absLen] at *
  simp only [BitVec.toNat_add, BitVec.toNat_ofNat] at hnat
  omega

section
variable {s : State} {b : Binding} {bytes : List Byte}

theorem State.deviceSample_feeding (hf : (s.sensor b).feed = true) (hd : deviceModel s.cfg b ≠ .plainStorage) :
    s.deviceSample b bytes = (s.sampleStored b bytes).raiseLine b := by
  simp [State.deviceSample, hf, hd, State.sampleStored]

/-- No feed, no sample, and plain storage gives none (R141, R88). -/
theorem State.deviceSample_not_feeding (h : (s.sensor b).feed = false ∨ deviceModel s.cfg b = .plainStorage) :
    s.deviceSample b bytes = s := by
  obtain h | h := h <;> simp [State.deviceSample, h]

theorem State.sampleStored_packet (hv : s.cfg.valid = true) {k : Nat} {v : Byte} (hk : k < absLen)
    (hb : bytes[k]? = some v) :
    (s.sampleStored b bytes).window b (s.cfg.regPktBase + BitVec.ofNat 5 k) = some v := by
  obtain ⟨hp, -⟩ := Config.valid_packet hv
  have hlen : 0 + (bytes.take absLen).length ≤ absLen := by
    rw [Nat.zero_add]
    exact List.length_take_le _ _
  have hstored := storePacket_window b 0 (bytes.take absLen) s hlen hp k v (by rw [List.getElem?_take_of_lt hk, hb])
  rw [Nat.zero_add] at hstored
  exact (State.window_setWindow_other _ b _ (Config.valid_packet_status hv hk)).trans hstored

/-- The flag is set in what the status register held: the packet passes it by. -/
theorem State.sampleStored_status (hv : s.cfg.valid = true) :
    (s.sampleStored b bytes).window b s.cfg.regStatus =
      orFlag (deviceModel s.cfg b) s.cfg.statusDrMask (s.window b s.cfg.regStatus) := by
  have hpass : (storePacket b 0 (bytes.take absLen) s).window b s.cfg.regStatus = s.window b s.cfg.regStatus := by
    refine storePacket_byteAt_other b 0 _ s _ fun j _ hj => (windowAddr_ne b (Config.valid_packet_status hv ?_)).symm
    rw [List.length_take] at hj
    omega
  rw [State.sampleStored, State.window_setWindow_same, hpass]

theorem State.sampleStored_byteAt_other {a : Nat} (hs : a ≠ windowAddr b s.cfg.regStatus)
    (hp : ∀ k, k < absLen → k < bytes.length → a ≠ windowAddr b (s.cfg.regPktBase + BitVec.ofNat 5 k)) :
    (s.sampleStored b bytes).byteAt a = s.byteAt a := by
  refine (State.byteAt_setByte_other _ _ hs).trans (storePacket_byteAt_other b 0 _ s a fun j _ hj => ?_)
  rw [List.length_take] at hj
  exact hp j (by omega) (by omega)

end

/-- A sample changes of the block the latches only (R141, R143). -/
theorem State.deviceSample_eq (s : State) (b : Binding) (bytes : List Byte) :
    s.deviceSample b bytes = { s with
      mem := (s.deviceSample b bytes).mem
      sensors := (s.deviceSample b bytes).sensors
      pending := (s.deviceSample b bytes).pending } :=
  congrArg
    (fun u : State => { u with
      mem := (s.deviceSample b bytes).mem
      sensors := (s.deviceSample b bytes).sensors
      pending := (s.deviceSample b bytes).pending })
    (State.deviceSample_keeps (fun u => { u with mem := [], sensors := [], pending := [] }) (fun _ _ _ _ => rfl)
      (fun _ _ _ => rfl) (fun _ _ => rfl) s b bytes)

/-- With the line high no latch is touched, and with it low those of its pin's edge are set (R34, R143). -/
theorem State.deviceSample_pending {s : State} {b : Binding} {bytes : List Byte} (hf : (s.sensor b).feed = true)
    (hd : deviceModel s.cfg b ≠ .plainStorage) :
    ((s.sensor b).line = true → (s.deviceSample b bytes).pending = s.pending) ∧
    ∀ p, (s.sensor b).line = false → wiredPin s.cfg b = some p →
      (s.deviceSample b bytes).pending = (s.edge p).pending := by
  have hline := congrArg Sensor.line (s.sampleStored_sensor b bytes b)
  have hblock := s.sampleStored_keeps (fun u => (u.cfg, u.slots, u.pending)) (fun _ _ _ _ => rfl) b bytes
  simp only [Prod.mk.injEq] at hblock
  obtain ⟨hcfg, hslots, hpend⟩ := hblock
  rw [State.deviceSample_feeding hf hd]
  refine ⟨fun hl => ?_, fun p hl hp => ?_⟩
  · rw [State.raiseLine_of_high (hline.trans hl), hpend]
  · obtain ⟨hw, -⟩ := State.raiseLine_of_low (hline.trans hl)
    rw [hw p (hcfg ▸ hp), State.edge_pending, State.setSensor_slots, State.setSensor_pending, hslots, hpend]
    rfl

/-- Settles O49: the sample is stored and then the line rises, each leaving alone what the other does. -/
theorem onlyAFeedingSensorInterrupts : Obligations.OnlyAFeedingSensorInterrupts := by
  unfold Obligations.OnlyAFeedingSensorInterrupts
  intro s b bytes hv
  refine ⟨State.deviceSample_not_feeding, fun hf hd => ?_⟩
  have he := State.deviceSample_feeding (bytes := bytes) hf hd
  have hbyte : ∀ a, (s.deviceSample b bytes).byteAt a = (s.sampleStored b bytes).byteAt a := fun a => by
    rw [he, State.raiseLine_byteAt]
  have hwindow : ∀ r, (s.deviceSample b bytes).window b r = (s.sampleStored b bytes).window b r := fun r => hbyte _
  obtain ⟨hhigh, hlow⟩ := State.deviceSample_pending (bytes := bytes) hf hd
  refine ⟨_, rfl, ?_, hhigh, hlow, fun k v hk hb => ?_, fun v hs => ?_, fun hsim hs => ?_, fun a hs hp => ?_,
    fun b' hb => ?_, s.deviceSample_eq b bytes⟩
  · rw [he, State.raiseLine_sensor, State.sampleStored_sensor]
  · rw [hwindow, State.sampleStored_packet hv hk hb]
  · rw [hwindow, State.sampleStored_status hv, hs]
    rfl
  · rw [hwindow, State.sampleStored_status hv, hs, hsim]
    rfl
  · rw [hbyte, State.sampleStored_byteAt_other hs hp]
  · rw [he, State.raiseLine_otherSensors _ b b' hb, State.sampleStored_sensor]

end Sys2Proof.Machine
end

section
/-! PROOFS. No pin and no storage is registered twice (O57): the claim refuses what is registered already, the attach
finds the pin still free, and no other step registers anything (R174). -/

namespace Sys2Proof.Machine

/-! Slots told apart by a field (R174). -/

/-- No two slots that `p` holds of have one `key`. -/
def State.Distinct {α : Type} (s : State) (p : Slot → Bool) (key : Slot → α) : Prop :=
  ∀ i j, p (s.slot i) = true → p (s.slot j) = true → key (s.slot i) = key (s.slot j) → i = j

section
variable {α : Type} {p : Slot → Bool} {key : Slot → α} {s : State} {k : Nat} {x : Slot}

/-- A slot is written for which `p` does not hold, or whose key no other slot has. -/
theorem State.Distinct.setSlot_new (h : s.Distinct p key)
    (hx : p x = true → ∀ j, j ≠ k → p (s.slot j) = true → key (s.slot j) ≠ key x) : (s.setSlot k x).Distinct p key := by
  intro i j hi hj he
  rw [State.slot_setSlot] at hi hj he
  rw [State.slot_setSlot] at he
  split at hi <;> split at hj
  case isTrue.isTrue ik jk => exact ik.1.trans jk.1.symm
  case isTrue.isFalse ik jk =>
    rw [if_pos ik, if_neg jk] at he
    exact absurd he.symm (hx hi j (fun e => jk ⟨e, ik.2⟩) hj)
  case isFalse.isTrue ik jk =>
    rw [if_neg ik, if_pos jk] at he
    exact absurd he (hx hj i (fun e => ik ⟨e, jk.2⟩) hi)
  case isFalse.isFalse ik jk =>
    rw [if_neg ik, if_neg jk] at he
    exact h i j hi hj he

/-- A slot is written that, if `p` holds of it, has the key it had. -/
theorem State.Distinct.setSlot_old (h : s.Distinct p key)
    (hx : p x = true → p (s.slot k) = true ∧ key x = key (s.slot k)) : (s.setSlot k x).Distinct p key := by
  refine h.setSlot_new fun hp j hj hpj he => ?_
  obtain ⟨hpk, hkey⟩ := hx hp
  exact hj (h j k hpj hpk (he.trans hkey))

end

/-- No two attached slots have one pin, no two claimed slots one storage: what `RegistrationsDistinct` says of the slots
alone. -/
def State.SlotsDistinct (s : State) : Prop := s.Distinct Slot.attached Slot.pin ∧ s.Distinct Slot.claimed Slot.sampleRef

theorem State.RegistrationsDistinct.slotsDistinct {s : State} (h : s.RegistrationsDistinct) : s.SlotsDistinct := by
  obtain ⟨hpins, hstorages, -⟩ := h
  exact ⟨hpins, hstorages⟩

/-- Unless REGISTER stands at line 4 it speaks of the slots alone. -/
theorem State.SlotsDistinct.registrationsDistinct {s : State} (h : s.SlotsDistinct)
    (hl : ∀ pin b f r, ¬ s.AtRegister pin b f r 4) : s.RegistrationsDistinct :=
  ⟨h.1, h.2, fun pin b f r hr => absurd hr (hl pin b f r)⟩

theorem State.SlotsDistinct.of_phase {s : State} (h : s.SlotsDistinct) (hp : s.fg.ph ≠ .line 4) :
    s.RegistrationsDistinct :=
  h.registrationsDistinct fun _ _ _ _ hr => hp hr.2

/-- It reads of the slots neither `raw` nor `ready`. -/
theorem State.RegistrationsDistinct.of_rawReady {s t : State} (h : s.RegistrationsDistinct) (hf : t.fg = s.fg)
    (hs : ∀ i, ∃ x r, t.slot i = { s.slot i with raw := x, ready := r }) : t.RegistrationsDistinct := by
  have hsame : ∀ i, (t.slot i).attached = (s.slot i).attached ∧ (t.slot i).pin = (s.slot i).pin ∧
      (t.slot i).claimed = (s.slot i).claimed ∧ (t.slot i).sampleRef = (s.slot i).sampleRef := by
    intro i
    obtain ⟨x, r, e⟩ := hs i
    rw [e]
    exact ⟨rfl, rfl, rfl, rfl⟩
  simpa only [State.RegistrationsDistinct, State.AtRegister, hf, hsame] using h

theorem State.RegistrationsDistinct.of_slots {s t : State} (h : s.RegistrationsDistinct) (hs : t.slots = s.slots)
    (hf : t.fg = s.fg) : t.RegistrationsDistinct :=
  h.of_rawReady hf fun i => ⟨_, _, slot_of_slots hs i⟩

/-! The instructions. -/

/-- An instruction that does not change the table registers nothing. -/
theorem keptOffTable_registrationsDistinct {i : Instr} (hi : changesTable i = false) :
    KeptOffTable i State.RegistrationsDistinct where
  memWrite _ _ _ _ h := h.of_slots (by simp) (by simp)
  memRead _ _ _ _ h := h.of_slots (by simp) (by simp)
  goes _ _ _ _ h := State.SlotsDistinct.registrationsDistinct h.slotsDistinct fun _ _ _ _ ⟨ho, _⟩ => by
    rw [Option.some.inj ho] at hi
    cases hi
  setIdle _ h := State.SlotsDistinct.of_phase h.slotsDistinct nofun
  ret _ _ h := State.SlotsDistinct.of_phase h.slotsDistinct nofun
  setReady s k v h := by
    refine h.of_rawReady rfl fun i => ?_
    unfold State.setReady
    rw [State.slot_setSlot]
    split
    · rename_i hk
      exact ⟨_, v, by rw [hk.1]⟩
    · exact ⟨_, _, rfl⟩
  cover _ _ h := h
  setFn _ _ h := h
  sensorCommand _ _ _ h := h.of_slots (by simp) (by simp)
  deviceStore _ _ _ _ h := h
  completeAccess _ _ h := h.of_slots (by simp) (by simp)
  setWindow _ _ _ _ h := h

/-- What holds of every slot of the table, and of a slot of reset, holds of a slot by its index. -/
theorem State.slot_of_forall_mem {s : State} {P : Slot → Prop} (h : ∀ x ∈ s.slots, P x) (hr : P Slot.reset) (i : Nat) :
    P (s.slot i) := by
  unfold State.slot List.getD
  cases hi : s.slots[i]? with
  | none => exact hr
  | some x => exact h x (List.mem_of_getElem? hi)

/-- REGISTER goes on from line 3 only where its pin and its storage are free (R174). -/
theorem claimRefusal_none_of_exec {pin : Pin} {b : Binding} {f : Byte} {r : StorageRef} {s t : State}
    (hr : s.AtRegister pin b f r 3) (h : exec (.register pin b f r) s = .next t) :
    s.claimRefusal pin b f r = none := by
  obtain ⟨ho, hp⟩ := hr
  obtain ⟨-, p, hph, -, h⟩ := State.accept_next h
  rw [State.phaseOf_self ho, hp] at hph
  cases hph
  cases hc : s.claimRefusal pin b f r with
  | none => rfl
  | some e => simp [registerLine, hc] at h

theorem State.RegistrationsDistinct.claims {pin : Pin} {b : Binding} {f : Byte} {r : StorageRef} {s : State}
    (hs : s.RegistrationsDistinct) (hc : s.claimRefusal pin b f r = none) :
    ((s.claim s.fg.slot b r).goto (.register pin b f r) (.line 4)).RegistrationsDistinct := by
  obtain ⟨hpins, hstorages⟩ := hs.slotsDistinct
  obtain ⟨hpin, hstorage, -⟩ := State.claimRefusal_none.mp hc
  have hfree := State.slot_of_forall_mem (P := fun x => x.attached = true → x.pin ≠ pin) hpin nofun
  have hunused := State.slot_of_forall_mem (P := fun x => x.claimed = true → x.sampleRef ≠ r) hstorage nofun
  refine ⟨?_, ?_, ?_⟩
  · exact State.Distinct.setSlot_old (k := s.fg.slot) hpins fun ha => ⟨ha, rfl⟩
  · exact State.Distinct.setSlot_new (k := s.fg.slot) hstorages fun _ j _ hj => hunused j hj
  · rintro pin' b' f' r' ⟨ho, -⟩ i
    cases ho
    show ((s.setSlot s.fg.slot _).slot i).attached = true → ((s.setSlot s.fg.slot _).slot i).pin ≠ pin
    rw [State.slot_setSlot]
    split
    · exact hfree s.fg.slot
    · exact hfree i

theorem State.RegistrationsDistinct.attaches {pin : Pin} {b : Binding} {f : Byte} {r : StorageRef} {s : State}
    (hs : s.RegistrationsDistinct) (hr : s.AtRegister pin b f r 4) :
    ((s.attach s.fg.slot pin).goto (.register pin b f r) (.line 5)).RegistrationsDistinct := by
  obtain ⟨hpins, hstorages, hfree⟩ := hs
  refine State.SlotsDistinct.of_phase ⟨?_, ?_⟩ nofun
  · exact State.Distinct.setSlot_new (k := s.fg.slot) hpins fun _ j _ hj => hfree pin b f r hr j hj
  · exact State.Distinct.setSlot_old (k := s.fg.slot) hstorages fun hc => ⟨hc, rfl⟩

/-- REGISTER registers at its claim a storage, and at its attach a pin, that was free (R105, R174). -/
theorem RegisterStep.registrationsDistinct {pin : Pin} {b : Binding} {f : Byte} {r : StorageRef} {s t : State}
    (h : RegisterStep pin b f r s t) (hc : s.AtRegister pin b f r 3 → s.claimRefusal pin b f r = none)
    (hs : s.RegistrationsDistinct) : t.RegistrationsDistinct := by
  cases h with
  | error _ | checksPin | choosesSlot _ | returns _ => exact State.SlotsDistinct.of_phase hs.slotsDistinct nofun
  | claims hr => exact hs.claims (hc hr)
  | attaches hr => exact hs.attaches hr
  | @frame k reg v _ hk =>
    have hw : (s.memWrite b reg v).2.SlotsDistinct := (hs.of_slots (by simp) (by simp)).slotsDistinct
    simp only [State.writeThen, State.raiseError]
    split
    · exact State.SlotsDistinct.of_phase hw fun e => by cases e; omega
    · exact State.SlotsDistinct.of_phase hw nofun

/-- UNREGISTER registers nothing (R110). -/
theorem UnregisterStep.registrationsDistinct {k : Nat} {s t : State} (h : UnregisterStep k s t)
    (hs : s.RegistrationsDistinct) : t.RegistrationsDistinct := by
  obtain ⟨hpins, hstorages⟩ := hs.slotsDistinct
  cases h with
  | detaches =>
    refine State.SlotsDistinct.of_phase ?_ nofun
    show (s.detach k).SlotsDistinct
    unfold State.detach
    split
    · exact ⟨State.Distinct.setSlot_old (k := k) hpins nofun,
        State.Distinct.setSlot_old (k := k) hstorages fun hc => ⟨hc, rfl⟩⟩
    · exact hs.slotsDistinct
  | releases _ _ =>
    exact State.SlotsDistinct.of_phase ⟨State.Distinct.setSlot_old (k := k) hpins fun ha => ⟨ha, rfl⟩,
      State.Distinct.setSlot_old (k := k) hstorages nofun⟩ nofun
  | returns _ => exact State.SlotsDistinct.of_phase hs.slotsDistinct nofun

theorem exec_registrationsDistinct {i : Instr} {s t : State} (hs : s.RegistrationsDistinct) (h : exec i s = .next t) :
    t.RegistrationsDistinct := by
  by_cases hb : ∃ k, i = .irqBody k
  · obtain ⟨k, rfl⟩ := hb
    exact hs.of_rawReady (execIrqBody_fg h) (execIrqBody_slot h)
  · cases ht : changesTable i with
    | false => exact exec_kept (keptOffTable_registrationsDistinct ht) h (fun k e => hb ⟨k, e⟩) ht hs
    | true =>
      cases i with
      | register pin b f r =>
        exact (execRegister_step h).registrationsDistinct (fun hr => claimRefusal_none_of_exec hr h) hs
      | unregister k => exact (execUnregister_step h).registrationsDistinct hs
      | _ => cases ht

/-- Settles O57: of the instructions only REGISTER registers, what was free; an edge touches no slot, and after a power
cycle nothing is registered. -/
theorem stepKeepsRegistrationsDistinct : Obligations.StepKeepsRegistrationsDistinct := by
  unfold Obligations.StepKeepsRegistrationsDistinct
  intro s t hs h
  exact step_keeps_block (P := State.RegistrationsDistinct) (fun _ _ ⟨_, hl, _, _, hf⟩ h => h.of_slots hl hf)
    (fun _ _ _ h he => exec_registrationsDistinct h he) (fun _ _ h => h)
    (fun s _ => State.resetWith_registrationsDistinct s.cfg) hs h

end Sys2Proof.Machine
end

section
/-! PROOFS. The host's duty on the bus (O7): a dispatch inside a frame meets the undefined case of R168 only where a
pending vector's slot is on the frame's bus, and such a slot is attached (R143). -/

namespace Sys2Proof.Machine

/-! No instruction meets the fault of R168. -/

theorem State.eraGuard_fault_eq {s t : State} {b : Binding} {e : Fault} (h : s.eraGuard b t = .fault e) :
    e = .eraWhileFeedOn := by
  rw [State.eraGuard_on t (State.eraGuard_fault h)] at h
  exact (Host.Outcome.fault.inj h).symm

/-- The fault of an instruction is that of R165. -/
theorem exec_fault_eq {i : Instr} {s : State} {e : Fault} (h : exec i s = .fault e) : e = .eraWhileFeedOn := by
  obtain ⟨b, -, ⟨hb, -, -⟩ | rfl⟩ := exec_fault h
  · cases i with
    | eraRead b f addr n =>
      obtain ⟨p, -, h⟩ := State.accept_fault h
      cases p with
      | addrHi | addrLo | ctrl | poll | value | clear => exact State.eraGuard_fault_eq h
      | idle | feedOff | valueW | line k => cases h
    | eraWrite b f addr v =>
      obtain ⟨p, -, h⟩ := State.accept_fault h
      cases p with
      | valueW | addrHi | addrLo | ctrl | poll | clear => exact State.eraGuard_fault_eq h
      | idle | feedOff | value | line k => cases h
    | _ => cases hb
  · obtain ⟨p, -, h⟩ := State.accept_fault h
    cases p with
    | idle | poll => exact State.eraGuard_fault_eq h
    | feedOff | valueW | addrHi | addrLo | ctrl | value | clear | line k => cases h

theorem exec_ne_sharedBusFrame {i : Instr} {s : State} : exec i s ≠ .fault .sharedBusFrame :=
  fun h => nomatch exec_fault_eq h

theorem agentStep_ne_sharedBusFrame {s : State} : agentStep s ≠ .fault .sharedBusFrame := by
  unfold agentStep foregroundStep
  split
  · exact exec_ne_sharedBusFrame
  · split
    · exact exec_ne_sharedBusFrame
    · split
      · nofun
      · split
        · nofun
        · exact exec_ne_sharedBusFrame

/-! Who meets it. -/

/-- A vector that may be dispatched is on the bus of the frame that the foreground's next step issues. -/
def State.OverlapPossible (s : State) : Prop :=
  ∃ i b, s.canDispatch i = true ∧ s.nextFrame = some b ∧ sameBus b (s.slot i).binding = true

theorem State.dispatchInside_sharedBusFrame {s : State} {i : Nat} (hc : s.canDispatch i = true)
    (h : s.dispatchInside i = .fault .sharedBusFrame) : s.OverlapPossible := by
  unfold State.dispatchInside at h
  split at h
  · rename_i b hf
    split at h
    · rename_i hb
      exact ⟨i, b, hc, hf, hb⟩
    · exact absurd h exec_ne_sharedBusFrame
  · exact absurd h exec_ne_sharedBusFrame

theorem freeStep_sharedBusFrame {s : State} (h : freeStep s = .fault .sharedBusFrame) : s.OverlapPossible := by
  unfold freeStep at h
  split at h
  · exact absurd h agentStep_ne_sharedBusFrame
  · rename_i i is hcand
    split at h
    · have hlt : s.answer.choice % (is.length + 1) < (i :: is).length := Nat.mod_lt _ (Nat.succ_pos _)
      have hmem : (i :: is).getD (s.answer.choice % (is.length + 1)) i ∈ s.candidates := by
        rw [hcand, List.getD_eq_getElem _ _ hlt]
        exact List.getElem_mem hlt
      unfold State.dispatchFreely at h
      split at h
      · exact State.dispatchInside_sharedBusFrame (State.mem_candidates hmem).2 h
      · exact absurd h exec_ne_sharedBusFrame
    · exact absurd h agentStep_ne_sharedBusFrame

theorem doMove_sharedBusFrame {m : Move} {s : State} (h : doMove m s = .fault .sharedBusFrame) :
    s.OverlapPossible := by
  cases m with
  | present w | setIE v | await | pulse p | sample b bytes | powerCycle => cases h
  | writeMode r md => simp only [doMove, State.writeMode] at h; split at h <;> cases h
  | load r f => simp only [doMove, State.load] at h; split at h <;> cases h
  | otherFeed b v => simp only [doMove, State.otherFeed] at h; split at h <;> cases h
  | discard x =>
    simp only [doMove, State.discard] at h
    split at h
    · cases h
    · cases x <;> cases h
  | run => exact absurd h agentStep_ne_sharedBusFrame
  | dispatch i =>
    simp only [doMove] at h
    split at h
    · exact absurd h exec_ne_sharedBusFrame
    · cases h
  | dispatchInFrame i =>
    simp only [doMove] at h
    split at h
    · rename_i hc
      exact State.dispatchInside_sharedBusFrame hc.2 h
    · cases h

/-- A step meets the fault of R168 only by a dispatch inside a frame on the vector's own bus. -/
theorem step_sharedBusFrame {s : State} (h : step s = .fault .sharedBusFrame) : s.OverlapPossible := by
  have hturn : turn s = .fault .sharedBusFrame := by
    unfold step tickOutcome at h
    split at h
    · cases h
    · rename_i f hf
      exact hf.trans h
    · cases h
  unfold turn at hturn
  split at hturn
  · exact freeStep_sharedBusFrame hturn
  · split at hturn
    · exact freeStep_sharedBusFrame hturn
    · rename_i m ms _ _
      exact doMove_sharedBusFrame (s := { s with moves := ms }) hturn

/-- A vector that may be dispatched is pending with interrupts on, so that its slot is attached, and then the duty keeps
the foreground's frame off its bus. -/
theorem not_overlapPossible {s : State} (hp : s.PendingInv) (hd : s.BusDutyKept) : ¬ s.OverlapPossible := by
  rintro ⟨i, b, hc, hf, hb⟩
  obtain ⟨hpend, hie, -⟩ := (s.canDispatch_iff i).mp hc
  obtain ⟨-, hattached⟩ := hp
  obtain hoff | hbus := hd
  · rw [hoff] at hie
    cases hie
  · rw [hbus b i hf (hattached i hpend)] at hb
    cases hb

/-- Settles O7: only such a dispatch meets the fault, and the duty excludes it. -/
theorem busDutyPreventsOverlap : Obligations.BusDutyPreventsOverlap := by
  unfold Obligations.BusDutyPreventsOverlap
  exact fun s hp hd h => not_overlapPossible hp hd (step_sharedBusFrame h)

end Sys2Proof.Machine
end

section
/-! PROOFS. What is refused or a fault: a frame of an extended access with the feed on (O27), a registration the host has
not prepared (O35), a change of what an attached or claimed slot uses (O51), a read out of bounds (O12). -/

namespace Sys2Proof.Machine

open Sys2Proof.Claims

/-! The feed on inside an extended access (R165). -/

theorem exec_eraPoll_feedOn {s : State} {b : Binding} (h : Idle s (.eraPoll b) ∨ StandsAt s (.eraPoll b) .poll)
    (hon : (s.sensor b).feed = true) : exec (.eraPoll b) s = .fault .eraWhileFeedOn := by
  obtain ⟨x, -, he⟩ := exec_eraPoll h
  rw [he, State.eraGuard_on _ hon]

/-- Settles O27, operation by operation: each of those frames stands behind the guard of R165. -/
theorem eraFrameWithFeedOnFaults : Obligations.EraFrameWithFeedOnFaults := by
  unfold Obligations.EraFrameWithFeedOnFaults
  exact fun s b hon => ⟨fun f addr n p h hp => exec_eraRead_feedOn h hp hon,
    fun f addr v p h hp => exec_eraWrite_feedOn h hp hon, fun h => exec_eraPoll_feedOn h hon⟩

/-! The claim of REGISTER (R163, R174, R178). -/

theorem State.pinTaken_iff {s : State} {pin : Pin} :
    s.pinTaken pin = true ↔ ∃ x ∈ s.slots, x.attached = true ∧ x.pin = pin := by
  simp [State.pinTaken]

theorem State.storageTaken_iff {s : State} {r : StorageRef} :
    s.storageTaken r = true ↔ ∃ x ∈ s.slots, x.claimed = true ∧ x.sampleRef = r := by
  simp [State.storageTaken]

theorem exec_register_refused {s : State} {pin : Pin} {b : Binding} {f : Byte} {r : StorageRef} {e : Refusal}
    (h : StandsAt s (.register pin b f r) (.line 3)) (hc : s.claimRefusal pin b f r = some e) :
    exec (.register pin b f r) s = .refused e := by
  simp only [exec_register_at h, registerLine, hc]

/-- Settles O35: at line 3 the refusal is the claim's, whose tests are made in that order. -/
theorem duplicateRegistrationIsRefused : Obligations.DuplicateRegistrationIsRefused := by
  unfold Obligations.DuplicateRegistrationIsRefused
  intro s pin b f r h
  refine ⟨fun hpin => exec_register_refused h ?_, fun hfree => ?_⟩
  · simp [State.claimRefusal, State.pinTaken_iff.mpr hpin]
  have hp : s.pinTaken pin = false := by simpa [State.pinTaken] using hfree
  refine ⟨fun hsto => exec_register_refused h ?_, fun hunused => ?_⟩
  · simp [State.claimRefusal, hp, State.storageTaken_iff.mpr hsto]
  have hs : s.storageTaken r = false := by simpa [State.storageTaken] using hunused
  refine ⟨fun htag => exec_register_refused h ?_, fun htag hmode => exec_register_refused h ?_,
    fun htag hmode hconf w hw hne => exec_register_refused h ?_⟩
  · simp [State.claimRefusal, hp, hs, htag]
  · simp [State.claimRefusal, hp, hs, htag, hmode]
  · have hfeed : s.feedConfigured b f = false := by simp [State.feedConfigured, hw, hne]
    simp [State.claimRefusal, hp, hs, htag, hmode, hconf, hfeed]

/-! The tag of a storage (R24, R25, R173). -/

theorem State.storageAttached_iff {s : State} {r : StorageRef} :
    s.storageAttached r = true ↔ ∃ x ∈ s.slots, x.attached = true ∧ x.sampleRef = r := by
  simp [State.storageAttached]

theorem State.writeMode_refused {s : State} {r : StorageRef} (m : Mode)
    (h : ∃ x ∈ s.slots, x.attached = true ∧ x.sampleRef = r) : s.writeMode r m = .refused .modeWhileAttached :=
  if_pos (State.storageAttached_iff.mpr h)

theorem State.writeMode_allowed {s : State} {r : StorageRef} (m : Mode)
    (h : ∀ x ∈ s.slots, x.attached = true → x.sampleRef ≠ r) :
    s.writeMode r m = .next (s.setSample r ((s.sample r).retag m)) := by
  refine if_neg fun ha => ?_
  obtain ⟨x, hx, hxa, hxr⟩ := State.storageAttached_iff.mp ha
  exact h x hx hxa hxr

/-! The data mode of a feed byte (R29, R178). -/

theorem State.feedRefusal_of_conflict {s : State} {b : Binding} {v : Byte} (h : s.modeConflict b v = true) :
    s.feedRefusal b v = some .dataModeConflict := if_pos h

/-- A feed byte whose data mode is not the tag of an attached slot's storage on its sensor is in conflict (R40, R178). -/
theorem State.modeConflict_of_slot {s : State} {b : Binding} {v : Byte} {x : Slot} (hx : x ∈ s.slots)
    (ha : x.attached = true) (htp : x.rapRead = b.tp) (haddr : x.busAddress = b.busAddress)
    (hmode : v &&& s.cfg.feed1AbsMask ≠ 0 ↔ (s.sample x.sampleRef).mode = .relative) : s.modeConflict b v = true := by
  have hkey : sensorKey x.binding = sensorKey b := by simp [sensorKey, Slot.binding, htp, haddr]
  have hne : feedMode s.cfg v ≠ (s.sample x.sampleRef).mode := by
    unfold feedMode
    split
    · rename_i hv
      simp [hmode.mp hv]
    · rename_i hv
      exact fun e => hv (hmode.mpr e.symm)
  exact List.any_eq_true.mpr ⟨x, hx, by simp [ha, hkey, hne]⟩

/-- An operation that may start but for the data mode of its feed byte is refused for that. -/
theorem State.accept_of_conflict {s : State} {i : Instr} {b : Binding} {v : Byte}
    (body : Phase → Host.Outcome State Fault Refusal) (hw : operandRefusal s.cfg i = none) (ho : s.fg.op = none)
    (hm : s.modeRefusal i = s.feedRefusal b v) (hc : s.modeConflict b v = true) :
    s.accept i body = .refused .dataModeConflict := by
  simp [State.accept, hw, State.phaseOf_idle i ho, hm, State.feedRefusal_of_conflict hc]

theorem exec_rapWrite_conflict {s : State} {b : Binding} {v : Byte} (hb : s.cfg.reaches b = true)
    (ho : s.fg.op = none) (hc : s.modeConflict b v = true) :
    exec (.rapWrite b s.cfg.regFeed1 v) s = .refused .dataModeConflict :=
  State.accept_of_conflict _ ((Laws.Admission.binding_iff s.cfg b).mpr hb) ho (s.modeRefusal_rapWrite_feed1 b v) hc

theorem State.otherFeed_conflict {s : State} {b : Binding} {v : Byte} (hc : s.modeConflict b v = true) :
    s.otherFeed b v = .refused .dataModeConflict := by
  simp only [State.otherFeed, State.feedRefusal_of_conflict hc]

/-! What a claimed slot uses (R178). -/

theorem State.discard_refused {s : State} {x : Slot} {y : Resource} (hx : x ∈ s.slots) (hc : x.claimed = true)
    (hy : y = .storage x.sampleRef ∨ y = .pin x.pin ∨ y = .transport x.rapRead) :
    s.discard y = .refused .resourceInUse := by
  refine if_pos (List.any_eq_true.mpr ⟨x, hx, ?_⟩)
  obtain rfl | rfl | rfl := hy <;> simp [hc]

/-- Settles O51: each is the refusal of one test, of the tag, of the data mode or of what is in use, and a tag that may be
written is. -/
theorem tagAndModeAreFixed : Obligations.TagAndModeAreFixed := by
  unfold Obligations.TagAndModeAreFixed
  refine ⟨fun s r m => ⟨State.writeMode_refused m, fun h => ⟨_, State.writeMode_allowed m h, ?_⟩⟩,
    fun s b v f hv hb ho => ⟨?_, fun hc => ?_⟩, fun s x hx hc => ⟨?_, ?_, ?_⟩⟩
  · simp only [State.sample_setSample_same]
    exact ⟨rfl, rfl, rfl, rfl, rfl, rfl, fun r' hr => s.sample_setSample_other _ hr⟩
  · rintro ⟨x, hx, ha, htp, haddr, hmode⟩
    have hc := State.modeConflict_of_slot hx ha htp haddr hmode
    exact ⟨exec_rapWrite_conflict hb ho hc, State.otherFeed_conflict hc⟩
  · have hr : bindingRefusal s.cfg b = none := (Laws.Admission.binding_iff s.cfg b).mpr hb
    obtain ⟨hoff, hon⟩ := s.modeConflict_keeps b f hv
    refine ⟨State.accept_of_conflict _ hr ho rfl (hoff.trans hc), State.accept_of_conflict _ hr ho rfl (hon.trans hc),
      fun addr n hw => State.accept_of_conflict _ ?_ ho rfl (hoff.trans hc),
      fun addr d => State.accept_of_conflict _ hr ho rfl (hoff.trans hc)⟩
    exact (Laws.Admission.eraRead b f addr n s.cfg).mpr ⟨hw, nofun⟩
  · exact State.discard_refused hx hc (.inl rfl)
  · exact State.discard_refused hx hc (.inr (.inl rfl))
  · exact State.discard_refused hx hc (.inr (.inr rfl))

/-! Reads out of bounds (R45, R69, R176). -/

/-- An operation that is refused was refused for its operands, for another in progress, for the data mode of its feed byte,
or by its body. -/
theorem State.accept_refused {s : State} {i : Instr} {body : Phase → Host.Outcome State Fault Refusal} {e : Refusal}
    (h : s.accept i body = .refused e) :
    operandRefusal s.cfg i = some e ∨ e = .operationInProgress ∨ s.modeRefusal i = some e ∨
      ∃ p, body p = .refused e := by
  unfold State.accept at h
  split at h
  · rename_i hr; exact .inl (hr.trans (congrArg some (Host.Outcome.refused.inj h)))
  · split at h
    · exact .inr (.inl (Host.Outcome.refused.inj h).symm)
    · split at h
      · rename_i hm; exact .inr (.inr (.inl (hm.trans (congrArg some (Host.Outcome.refused.inj h)))))
      · exact .inr (.inr (.inr ⟨_, h⟩))

/-- A binding is refused for its transport or for a width (R65). -/
theorem bindingRefusal_some {c : Config} {b : Binding} {e : Refusal} (h : bindingRefusal c b = some e) :
    e = .operandTooWide ∨ e = .unknownTransport := by
  unfold bindingRefusal at h
  split at h
  · cases h
  · split at h
    · exact .inl (Option.some.inj h).symm
    · exact .inr (Option.some.inj h).symm

theorem operandRefusal_rapRead_iff (c : Config) (b : Binding) (reg : Reg) (count : BitVec 6) :
    operandRefusal c (.rapRead b reg count) = some .readOutsideWindow ↔
      count.toNat = 0 ∨ c.rapMaxCount < count.toNat ∨ 32 < reg.toNat + count.toNat := by
  simp only [operandRefusal]
  split
  · refine ⟨fun h => ?_, by omega⟩
    obtain e | e := bindingRefusal_some h <;> cases e
  · exact ⟨fun _ => by omega, fun _ => rfl⟩

theorem operandRefusal_eraRead_iff (c : Config) (b : Binding) (f : Byte) (addr : EraAddr) (n : Byte) :
    operandRefusal c (.eraRead b f addr n) = some .eraRunPastTop ↔
      c.eraMaxN < n.toNat ∨ 0x10000 < addr.toNat + n.toNat := by
  simp only [operandRefusal]
  split
  · refine ⟨fun h => ?_, by omega⟩
    obtain e | e := bindingRefusal_some h <;> cases e
  · exact ⟨fun _ => by omega, fun _ => rfl⟩

theorem exec_rapRead_refused_iff (s : State) (b : Binding) (reg : Reg) (count : BitVec 6) :
    exec (.rapRead b reg count) s = .refused .readOutsideWindow ↔
      operandRefusal s.cfg (.rapRead b reg count) = some .readOutsideWindow := by
  refine ⟨fun h => ?_, State.accept_of_operandRefusal _⟩
  obtain h | h | h | ⟨p, h⟩ := State.accept_refused h
  · exact h
  · cases h
  · cases h
  · cases h

/-- ERA_READ refuses, once admitted, a foreign phase only (R100). -/
theorem eraReadPhase_refused {b : Binding} {f : Byte} {addr : EraAddr} {n : Byte} {s : State} {p : Phase} {e : Refusal}
    (h : eraReadPhase b f addr n s p = .refused e) : e = .foreignPhase := by
  have hg : ∀ t, s.eraGuard b t ≠ .refused e := fun t => by
    unfold State.eraGuard
    split <;> nofun
  cases p with
  | idle | feedOff => cases h
  | valueW | line k => exact (Host.Outcome.refused.inj h).symm
  | addrHi | addrLo | ctrl | poll | value | clear => exact absurd h (hg _)

theorem exec_eraRead_refused_iff (s : State) (b : Binding) (f : Byte) (addr : EraAddr) (n : Byte) :
    exec (.eraRead b f addr n) s = .refused .eraRunPastTop ↔
      operandRefusal s.cfg (.eraRead b f addr n) = some .eraRunPastTop := by
  refine ⟨fun h => ?_, State.accept_of_operandRefusal _⟩
  obtain h | h | h | ⟨p, h⟩ := State.accept_refused h
  · exact h
  · cases h
  · simp only [State.modeRefusal, State.feedRefusal] at h
    split at h <;> cases h
  · cases eraReadPhase_refused h

/-- Settles O12: the operands are tested first, and nothing after them gives that refusal. -/
theorem outOfBoundsReadsAreRefused : Obligations.OutOfBoundsReadsAreRefused := by
  unfold Obligations.OutOfBoundsReadsAreRefused
  refine ⟨fun s b reg count => ?_, fun s b f addr n => ?_⟩
  · rw [exec_rapRead_refused_iff, operandRefusal_rapRead_iff]
  · rw [exec_eraRead_refused_iff, operandRefusal_eraRead_iff]

end Sys2Proof.Machine
end
